-- ==== Sys2Proof/Word.lean ====
section
/-! DEFINITION. The word types of CHK-1: the byte of a message, the 32-bit register and command word of the bus, the
64-bit parameter and CRC storage, and the 1024-bit storage of the FNV hash (10_state.md R22 to R46). -/

namespace Sys2Proof

/-- One byte of a message or of a digest (00_scope.md R10). -/
abbrev Byte := BitVec 8

/-- One register of the window, and one command word (10_state.md section 2, 30_encoding.md R80). -/
abbrev Word := BitVec 32

/-- A 64-bit parameter, a table entry, or the CRC register's storage (10_state.md R31, R40, R41). -/
abbrev Word64 := BitVec 64

/-- The FNV hash's storage (10_state.md R42). -/
abbrev Word1024 := BitVec 1024

end Sys2Proof
end

