-- ==== Sys2Proof/Syntax.lean ====
section
/-! DEFINITION. The command words of CHK-1 as syntax: one constructor per row of spec/opcode_table.json (30_encoding.md R83). -/

namespace Sys2Proof

/-- The eight commands a host can write to CMD (30_encoding.md R83, R84). -/
inductive Instr where
  /-- NOP (R140). -/
  | nop
  /-- CONFIGURE (R141 to R143). -/
  | configure
  /-- START (R144). -/
  | start
  /-- FEED_IMM: the operand is the message byte `BYTE` (R161). -/
  | feedImm (byte : Byte)
  /-- FEED_DATA: the operand is the count `n = NM1 + 1` of bytes fed from DATA (R82, R162). -/
  | feedData (n : Nat)
  /-- FINAL (R163). -/
  | final
  /-- CLEAR_ERR (R145). -/
  | clearErr
  /-- SOFT_RESET (R146). -/
  | softReset
  deriving DecidableEq, Repr

end Sys2Proof
end

