-- ==== Sys2Proof/WellFormed.lean ====
section
/-! DEFINITION. Which terms of `Instr` are commands the encoding can express. -/

namespace Sys2Proof

/-- Every command is well formed but a FEED_DATA whose count is outside 1 to 4: `NM1` has two bits and `n = NM1 + 1`
(30_encoding.md R82; a zero-length feed has no encoding, 43_commands_data.md R162). -/
def Instr.wellFormed : Instr → Bool
  | .nop => true
  | .configure => true
  | .start => true
  | .feedImm _ => true
  | .feedData n => decide (1 ≤ n) && decide (n ≤ 4)
  | .final => true
  | .clearErr => true
  | .softReset => true

end Sys2Proof
end

