-- ==== Sys2Proof/Decode.lean ====
section
/-! DEFINITION. The decoder of command words (30_encoding.md R84), total on all 2^32 words and rejecting by name; the encoder,
written from the same map (R83); and the opcode map itself as rows of match and mask. -/

namespace Sys2Proof

/-- Why a word is no command.  Both are the error ILLEGAL_CMD of 60_exceptions.md R181. -/
inductive Reject where
  /-- OPCODE is 0x08 to 0xFF (R85). -/
  | unknownOpcode (opcode : BitVec 8)
  /-- OPCODE is a command's, and a bit the command's format reserves is set (R81, R85). -/
  | reservedBits (opcode : BitVec 8)
  deriving DecidableEq, Repr

/-- OPCODE, bits 31 to 24 (R80). -/
def opcodeField (w : Word) : BitVec 8 := w.extractLsb' 24 8

/-- OPERAND, bits 23 to 0 (R80). -/
def operandField (w : Word) : BitVec 24 := w.extractLsb' 0 24

/-- The operand BYTE, bits 7 to 0, of format B (R82). -/
def byteField (w : Word) : Byte := w.extractLsb' 0 8

/-- The operand NM1, bits 1 to 0, of format N (R82). -/
def nm1Field (w : Word) : BitVec 2 := w.extractLsb' 0 2

/-- Format Z: no operand bit may be set (R81). -/
def decodeZ (w : Word) (i : Instr) : Except Reject Instr :=
  if operandField w = 0 then .ok i else .error (.reservedBits (opcodeField w))

/-- Format B: bits 23 to 8 are reserved (R81). -/
def decodeB (w : Word) : Except Reject Instr :=
  if w.extractLsb' 8 16 = 0 then .ok (.feedImm (byteField w)) else .error (.reservedBits (opcodeField w))

/-- Format N: bits 23 to 2 are reserved, and `n = NM1 + 1` (R81, R82). -/
def decodeN (w : Word) : Except Reject Instr :=
  if w.extractLsb' 2 22 = 0 then .ok (.feedData ((nm1Field w).toNat + 1)) else .error (.reservedBits (opcodeField w))

/-- The decode function of R84. -/
def decode (w : Word) : Except Reject Instr :=
  match (opcodeField w).toNat with
  | 0x00 => decodeZ w .nop
  | 0x01 => decodeZ w .configure
  | 0x02 => decodeZ w .start
  | 0x03 => decodeB w
  | 0x04 => decodeN w
  | 0x05 => decodeZ w .final
  | 0x06 => decodeZ w .clearErr
  | 0x07 => decodeZ w .softReset
  | _ => .error (.unknownOpcode (opcodeField w))

/-- A command word from its OPCODE and OPERAND (R80). -/
def commandWord (opcode : BitVec 8) (operand : BitVec 24) : Word := opcode ++ operand

/-- The word of a well-formed command (R83). -/
def encode : Instr → Word
  | .nop => commandWord 0x00 0
  | .configure => commandWord 0x01 0
  | .start => commandWord 0x02 0
  | .feedImm byte => commandWord 0x03 (byte.setWidth 24)
  | .feedData n => commandWord 0x04 ((BitVec.ofNat 2 (n - 1)).setWidth 24)
  | .final => commandWord 0x05 0
  | .clearErr => commandWord 0x06 0
  | .softReset => commandWord 0x07 0

/-- One row of the opcode map: its mnemonic, and the match and mask of its words (R83). -/
structure OpcodeRow where
  mnemonic : String
  matchBits : Word
  mask : Word
  deriving DecidableEq, Repr

/-- The opcode map, row by row (R83, spec/opcode_table.json). -/
def opcodeMap : List OpcodeRow :=
  [⟨"NOP", 0x00000000, 0xFFFFFFFF⟩, ⟨"CONFIGURE", 0x01000000, 0xFFFFFFFF⟩, ⟨"START", 0x02000000, 0xFFFFFFFF⟩,
   ⟨"FEED_IMM", 0x03000000, 0xFFFFFF00⟩, ⟨"FEED_DATA", 0x04000000, 0xFFFFFFFC⟩, ⟨"FINAL", 0x05000000, 0xFFFFFFFF⟩,
   ⟨"CLEAR_ERR", 0x06000000, 0xFFFFFFFF⟩, ⟨"SOFT_RESET", 0x07000000, 0xFFFFFFFF⟩]

/-- The word is one of the row's words. -/
def rowMatches (r : OpcodeRow) (w : Word) : Bool := w &&& r.mask == r.matchBits

/-- The mnemonic of a command's row (R83). -/
def mnemonicOf : Instr → String
  | .nop => "NOP"
  | .configure => "CONFIGURE"
  | .start => "START"
  | .feedImm _ => "FEED_IMM"
  | .feedData _ => "FEED_DATA"
  | .final => "FINAL"
  | .clearErr => "CLEAR_ERR"
  | .softReset => "SOFT_RESET"

/-- The instruction the decoder reads from the table's word `w` of `nbits` bits, every bit above them zero.  A command is one
32-bit word (R80), so a number of more than 32 bits is no command. -/
def decodeTableWord (nbits w : Nat) : Option Instr :=
  if w % 2 ^ nbits < 2 ^ 32 then
    match decode (BitVec.ofNat 32 (w % 2 ^ nbits)) with
    | .ok i => some i
    | .error _ => none
  else none

end Sys2Proof
end

