-- ==== Sys2Proof/Config.lean ====
section
/-! DEFINITION. What is fixed for one CHK-1, and the named parameters that 00_scope.md R6 and 92_eei_decisions.md leave to the
platform.  The FNV constants and the legal widths stand beside the datapaths that read them (Machine/Fnv.lean,
Machine/Operands.lean). -/

namespace Sys2Proof.Config

/-- The width of the data bus in bits (R6, D2). -/
def busDataWidth : Nat := 32

/-- The register window's size in bytes (R6, R60). -/
def windowBytes : Nat := 4096

/-- The number of entries of the CRC table (R6, R103). -/
def crcTableSize : Nat := 256

/-- The iterations that build one table entry (R6, R102). -/
def crcTableIterations : Nat := 8

/-- The digest buffer's length in bytes: the longest digest, FNV-1024 (R6, R43). -/
def digestBytes : Nat := 128

/-- The parameter `CHK_BASE` (R60, D3: OPEN, 4096-byte aligned).  The platform names the 4096-byte page the window fills,
so that every value of the parameter is aligned. -/
structure Placement where
  page : Nat
  deriving DecidableEq, Repr

/-- `CHK_BASE`, the byte address where the host's bus reaches the window (R60). -/
def Placement.chkBase (p : Placement) : Nat := windowBytes * p.page

end Sys2Proof.Config
end

