-- ==== Sys2Proof/Machine/State.lean ====
section
/-! DEFINITION. The state of CHK-1: every field of the record of 10_state.md R46, and two fields that are the model's own, the
host's side of the bus (00_scope.md R15, R16): the events the bus still has to deliver and the responses it has given. -/

namespace Sys2Proof.Machine

/-- CFG.ALG: which datapath a configuration selects (10_state.md R27). -/
inductive Alg where
  | crc
  | fnv
  deriving DecidableEq, Repr

/-- A serialisation order (00_scope.md R10), and the field CFG.ORDER (R27). -/
inductive ByteOrder where
  | bigEndian
  | littleEndian
  deriving DecidableEq, Repr

/-- The stored fields of CFG, and of ACFG, which has the same layout (R27, R30).  Every other bit of the two registers is
reserved and has no storage (20_memory.md R65). -/
structure Cfg where
  alg : Alg
  refin : Bool
  refout : Bool
  order : ByteOrder
  fnvWsel : BitVec 3
  crcWidth : BitVec 7
  deriving DecidableEq, Repr

/-- The configuration whose register word is 0 (R27). -/
def Cfg.zero : Cfg :=
  { alg := .crc, refin := false, refout := false, order := .bigEndian, fnvWsel := 0, crcWidth := 0 }

/-- STATE.  The code 3 is never produced, so it is no value (R24; 93_implementation_defined.md I7). -/
inductive EngineState where
  | uninitialized
  | tableBuilt
  | ready
  deriving DecidableEq, Repr

/-- ERRCODE.  The codes 6 to 15 are never produced, so they are no values (60_exceptions.md R181; I7). -/
inductive ErrorCode where
  | none
  | illegalCmd
  | badCrcWidth
  | badFnvWidth
  | paramRange
  | badState
  deriving DecidableEq, Repr

/-- ERRARG, the parameter an error names.  The values 6 to 15 are never produced (60_exceptions.md R182; I7). -/
inductive ErrorArg where
  | none
  | poly
  | init
  | xorout
  | crcWidth
  | fnvWsel
  deriving DecidableEq, Repr

/-- The size of a bus access; the block accepts only `word` (20_memory.md R62). -/
inductive AccessSize where
  | byte
  | half
  | word
  | double
  deriving DecidableEq, Repr

/-- What the outside does to the block, one item at a time: a host's read or write at a byte offset of the window
(30_encoding.md R90), or the platform asserting reset (70_reset_and_hazards.md R200).  `value` is what the host drives on the
32-bit data bus. -/
inductive BusEvent where
  | read (size : AccessSize) (offset : BitVec 12)
  | write (size : AccessSize) (offset : BitVec 12) (value : Word)
  | reset
  deriving DecidableEq, Repr

/-- What the bus answers to one access: a completed read with its value, a completed write, or a bus error, which carries
0 data for a read (20_memory.md R62). -/
inductive Response where
  | readDone (value : Word)
  | writeDone
  | readError (value : Word)
  | writeError
  deriving DecidableEq, Repr

/-- The registers of the window, one for each row of 20_memory.md R61, the indexed windows one for each word. -/
inductive Reg where
  | id
  | status
  | cmd
  | data
  | cfg
  | acfg
  | polyLo
  | polyHi
  | initLo
  | initHi
  | xoroutLo
  | xoroutHi
  | errInfo
  | digestLen
  | msglenLo
  | msglenHi
  | digest (j : Fin 32)
  | crctabLo (i : Byte)
  | crctabHi (i : Byte)
  | reserved
  deriving DecidableEq, Repr

/-- The state.  All fields but the last two are the record of R46; ID is a constant and the reserved bits are hard-wired, so
they have no field (R20, R22). -/
structure State where
  /-- STATE (R24). -/
  engine : EngineState
  /-- DVALID, read as STATUS.DIGEST_VALID (R43). -/
  dvalid : Bool
  /-- DLEN, read as DIGEST_LEN (R35, R43). -/
  dlen : BitVec 8
  /-- DBUF, byte 0 first: 128 bytes (R43). -/
  dbuf : List Byte
  /-- ERR (R44). -/
  err : Bool
  /-- ERR_OVF (R44). -/
  errOvf : Bool
  /-- ERRCODE (R44). -/
  errCode : ErrorCode
  /-- ERRARG (R44). -/
  errArg : ErrorArg
  /-- ERRINFO (R34, R44). -/
  errInfo : Word
  /-- DATA (R26). -/
  data : Word
  /-- CFG, the staging configuration (R27). -/
  cfg : Cfg
  /-- POLY_LO and POLY_HI (R31). -/
  polyLo : Word
  polyHi : Word
  /-- INIT_LO and INIT_HI (R32). -/
  initLo : Word
  initHi : Word
  /-- XOROUT_LO and XOROUT_HI (R33). -/
  xoroutLo : Word
  xoroutHi : Word
  /-- ACFG: A_ALG, A_REFIN, A_REFOUT, A_ORDER, A_FNVSEL and the latched CRC_WIDTH (R30, R39). -/
  acfg : Cfg
  /-- A_W, the active width in bits (R39). -/
  aW : BitVec 11
  /-- A_POLY (R39). -/
  aPoly : Word64
  /-- A_INIT (R39). -/
  aInit : Word64
  /-- A_XOROUT (R39). -/
  aXorout : Word64
  /-- TVALID (R40). -/
  tvalid : Bool
  /-- T, entry 0 first: 256 entries (R40). -/
  table : List Word64
  /-- CRC_R (R41). -/
  crcR : Word64
  /-- FNV_H (R42). -/
  fnvH : Word1024
  /-- MSGLEN (R36). -/
  msglen : BitVec 64
  /-- The model's own: the events the bus has still to deliver, the next one first (20_memory.md R68, R72). -/
  pending : List BusEvent
  /-- The model's own: the responses given so far, the first one first (00_scope.md R16). -/
  responses : List Response
  deriving DecidableEq, Repr

/-- Why a step stops. -/
inductive Fault where
  /-- Raised by the step, for an access of a size other than 32 bits or at an offset that is no multiple of 4: "A model takes
  that access as a fault of the host step" (20_memory.md R62).  No command raises it.  Safe: the block's state is unchanged, and
  a host that goes on after a bus error is `stepOn` with another value of the parameter BUS_ERROR_EFFECT. -/
  | busError (access : BusEvent)
  deriving DecidableEq, Repr

/-- Why an instruction has no meaning. -/
inductive Refusal where
  /-- Raised by an arm of exec whose instruction the model gives no meaning.  Safe.  No arm of this model raises it. -/
  | notModelled (mnemonic : String)
  deriving DecidableEq, Repr

/-- A digest buffer of zero bytes (R43). -/
def emptyDbuf : List Byte := List.replicate Config.digestBytes 0

/-- A table of zero entries (R40). -/
def emptyTable : List Word64 := List.replicate Config.crcTableSize 0

/-- The machine right after reset: R46 and 70_reset_and_hazards.md R200 give every field of the block its value.  Nothing is
on the bus (the model's choice, log entry 1). -/
def State.reset : State where
  engine := .uninitialized
  dvalid := false
  dlen := 0
  dbuf := emptyDbuf
  err := false
  errOvf := false
  errCode := .none
  errArg := .none
  errInfo := 0
  data := 0
  cfg := Cfg.zero
  polyLo := 0
  polyHi := 0
  initLo := 0
  initHi := 0
  xoroutLo := 0
  xoroutHi := 0
  acfg := Cfg.zero
  aW := 0
  aPoly := 0
  aInit := 0
  aXorout := 0
  tvalid := false
  table := emptyTable
  crcR := 0
  fnvH := 0
  msglen := 0
  pending := []
  responses := []

end Sys2Proof.Machine
end

