-- ==== Sys2Proof/Machine/Operands.lean ====
section
/-! DEFINITION. The operands of the commands: bit reversal and byte serialisation (00_scope.md R9, R10), the bytes of DATA
(30_encoding.md R82), the packing of CFG (10_state.md R27), the 64-bit parameters (R31 to R33) and the widths (R28, R29). -/

namespace Sys2Proof.Machine

/-- `mask(W) = 2^W - 1` (00_scope.md R8), in the CRC register's storage. -/
def mask (w : Nat) : Word64 := BitVec.ofNat 64 (2 ^ w - 1)

/-- `reflect(v, N)`: for each bit position i below N, a set input bit i sets the output bit N-1-i (R9). -/
def reflect {m : Nat} (v : BitVec m) (n : Nat) : BitVec m :=
  (List.range n).foldl (fun acc i => if v.getLsbD i then acc ||| BitVec.twoPow m (n - 1 - i) else acc) 0

/-- `ser(v, W, order)`: big-endian byte k is `v[W-1-8k : W-8-8k]`, little-endian byte k is `v[8k+7 : 8k]` (R10). -/
def ser {m : Nat} (v : BitVec m) (w : Nat) : ByteOrder → List Byte
  | .bigEndian => (List.range (w / 8)).map fun k => v.extractLsb' (w - 8 - 8 * k) 8
  | .littleEndian => (List.range (w / 8)).map fun k => v.extractLsb' (8 * k) 8

/-- Byte j of a word, bits 8j+7 to 8j: a byte of DATA (10_state.md R26), and a byte lane of the bus (20_memory.md R66). -/
def byteLane (v : Word) (j : Nat) : Byte := v.extractLsb' (8 * j) 8

/-- The first n bytes of DATA, byte 0 first (30_encoding.md R82). -/
def dataBytes (v : Word) (n : Nat) : List Byte := (List.range n).map (byteLane v)

/-- A word from its four byte lanes, lane 0 first (10_state.md R37). -/
def wordOfLanes (b0 b1 b2 b3 : Byte) : Word := b3 ++ b2 ++ b1 ++ b0

/-- The 64-bit parameter of a register pair: HI is bits 63 to 32, LO bits 31 to 0 (20_memory.md R67). -/
def pair (hi lo : Word) : Word64 := hi ++ lo

/-- POLY (10_state.md R31). -/
def State.poly (s : State) : Word64 := pair s.polyHi s.polyLo

/-- INIT (10_state.md R32). -/
def State.init (s : State) : Word64 := pair s.initHi s.initLo

/-- XOROUT (10_state.md R33). -/
def State.xorout (s : State) : Word64 := pair s.xoroutHi s.xoroutLo

/-- The legal values of CRC_WIDTH (R28). -/
def legalCrcWidth (w : Nat) : Bool := [8, 16, 24, 32, 40, 48, 56, 64].contains w

/-- The FNV width that FNV_WSEL encodes; the codes 6 and 7 are illegal (R29). -/
def fnvWidth (sel : BitVec 3) : Option Nat :=
  match sel.toNat with
  | 0 => some 32
  | 1 => some 64
  | 2 => some 128
  | 3 => some 256
  | 4 => some 512
  | 5 => some 1024
  | _ => none

/-- The FNV_WSEL code of a width; a width that is none of the six has no code (R29). -/
def fnvCode (w : Nat) : Option (BitVec 3) :=
  match w with
  | 32 => some 0
  | 64 => some 1
  | 128 => some 2
  | 256 => some 3
  | 512 => some 4
  | 1024 => some 5
  | _ => none

/-- CFG.ALG as its bit: 0 selects CRC (R27). -/
def Alg.toBit : Alg → BitVec 1
  | .crc => 0
  | .fnv => 1

/-- The algorithm a bit selects (R27). -/
def algOfBit (b : Bool) : Alg := if b then .fnv else .crc

/-- CFG.ORDER as its bit: 0 is big-endian (R27). -/
def ByteOrder.toBit : ByteOrder → BitVec 1
  | .bigEndian => 0
  | .littleEndian => 1

/-- The byte order a bit selects (R27). -/
def orderOfBit (b : Bool) : ByteOrder := if b then .littleEndian else .bigEndian

/-- The word CFG or ACFG reads as, bit 31 first: reserved bits read 0 (R27, R65). -/
def packCfg (c : Cfg) : Word :=
  (0 : BitVec 17) ++ c.crcWidth ++ (0 : BitVec 1) ++ c.fnvWsel ++ c.order.toBit ++ BitVec.ofBool c.refout
    ++ BitVec.ofBool c.refin ++ c.alg.toBit

/-- The fields a write to CFG stores: bits 0 to 3, 6 to 4 and 14 to 8; the others are ignored (R27, R65). -/
def unpackCfg (w : Word) : Cfg where
  alg := algOfBit (w.getLsbD 0)
  refin := w.getLsbD 1
  refout := w.getLsbD 2
  order := orderOfBit (w.getLsbD 3)
  fnvWsel := w.extractLsb' 4 3
  crcWidth := w.extractLsb' 8 7

end Sys2Proof.Machine
end

