-- ==== Sys2Proof/Machine/Crc.lean ====
section
/-! DEFINITION. The CRC datapath of 40_crc_engine.md: the table, the step of one byte, the register after a message and the
finalisation, as functions of the width W, the polynomial P, the initial value I, the final mask X and the reflection flags. -/

namespace Sys2Proof.Machine

/-- The seed of entry b: the byte in the top byte of a W-bit register (R101). -/
def crcSeed (w : Nat) (b : Byte) : Word64 := b.setWidth 64 <<< (w - 8)

/-- One iteration: the top bit is tested, the register is shifted left and masked, and P is XORed in if the bit was set
(R102). -/
def crcIterate (w : Nat) (p r : Word64) : Word64 :=
  if r.getLsbD (w - 1) then ((r <<< 1) &&& mask w) ^^^ p else (r <<< 1) &&& mask w

/-- `n` iterations of R102. -/
def crcIterations (w : Nat) (p : Word64) : Nat → Word64 → Word64
  | 0, r => r
  | n + 1, r => crcIterations w p n (crcIterate w p r)

/-- `CrcTableEntry(b)` (R102). -/
def crcTableEntry (w : Nat) (p : Word64) (b : Byte) : Word64 :=
  crcIterations w p Config.crcTableIterations (crcSeed w b)

/-- The table: `T[b] = CrcTableEntry(b)` for b = 0 to 255 (R103). -/
def crcTable (w : Nat) (p : Word64) : List Word64 :=
  (List.range Config.crcTableSize).map fun b => crcTableEntry w p (BitVec.ofNat 8 b)

/-- `T[b]` of a stored table (R40). -/
def tableAt (t : List Word64) (b : Byte) : Word64 := t.getD b.toNat 0

/-- The byte as it enters the register: reflected when REFIN is 1 (R106). -/
def crcInput (refin : Bool) (b : Byte) : Byte := if refin then reflect b 8 else b

/-- The table index: the register's top byte after the input byte is XORed into it (R107). -/
def crcIndex (w : Nat) (r : Word64) : Byte := r.extractLsb' (w - 8) 8

/-- `CrcStep(R, b)` with the stored table `t` (R107). -/
def crcStep (w : Nat) (refin : Bool) (t : List Word64) (r : Word64) (b : Byte) : Word64 :=
  let r1 := r ^^^ (crcInput refin b).setWidth 64 <<< (w - 8)
  ((r1 <<< 8) &&& mask w) ^^^ tableAt t (crcIndex w r1)

/-- `crc_reg(M)`: the fold of CrcStep over the message from I (R108). -/
def crcReg (w : Nat) (refin : Bool) (t : List Word64) (i : Word64) (m : List Byte) : Word64 := m.foldl (crcStep w refin t) i

/-- `CrcFinalValue(R)`: the optional reflection of the whole register, then the final XOR (R110). -/
def crcFinalValue (w : Nat) (refout : Bool) (x r : Word64) : Word64 := (if refout then reflect r w else r) ^^^ x

end Sys2Proof.Machine
end

