-- ==== Sys2Proof/Machine/Flags.lean ====
section
/-! DEFINITION. The STATUS register: the encodings of STATE, ERRCODE and ERRARG, and the word a read returns (10_state.md R23,
R24, R45; 60_exceptions.md R181, R182). -/

namespace Sys2Proof.Machine

/-- STATE's code (R24). -/
def EngineState.code : EngineState → BitVec 2
  | .uninitialized => 0
  | .tableBuilt => 1
  | .ready => 2

/-- ERRCODE's value (R181). -/
def ErrorCode.code : ErrorCode → BitVec 4
  | .none => 0
  | .illegalCmd => 1
  | .badCrcWidth => 2
  | .badFnvWidth => 3
  | .paramRange => 4
  | .badState => 5

/-- ERRARG's value (R182). -/
def ErrorArg.code : ErrorArg → BitVec 4
  | .none => 0
  | .poly => 1
  | .init => 2
  | .xorout => 3
  | .crcWidth => 4
  | .fnvWsel => 5

/-- The word STATUS reads as, bit 31 first (R23). -/
def statusWord (s : State) : Word :=
  (0 : BitVec 16) ++ s.errArg.code ++ s.errCode.code ++ (0 : BitVec 3) ++ BitVec.ofBool s.errOvf ++ BitVec.ofBool s.err
    ++ BitVec.ofBool s.dvalid ++ s.engine.code

end Sys2Proof.Machine
end

