-- ==== Sys2Proof/Machine/Fnv.lean ====
section
/-! DEFINITION. The FNV datapath of 41_fnv_engine.md: the constants, the step of one byte and the hash after a message.  The
arithmetic is exact on natural numbers, reduced modulo 2^W at the end (R125). -/

namespace Sys2Proof.Machine

/-- `FNV_PRIME(W)`, bound to the table of R122 (log entry 3).  No state of a run has another width (R120); the value there is
log entry 4. -/
def fnvPrime (w : Nat) : Nat :=
  match w with
  | 32 => 2 ^ 24 + 2 ^ 8 + 0x93
  | 64 => 2 ^ 40 + 2 ^ 8 + 0xB3
  | 128 => 2 ^ 88 + 2 ^ 8 + 0x3B
  | 256 => 2 ^ 168 + 2 ^ 8 + 0x63
  | 512 => 2 ^ 344 + 2 ^ 8 + 0x57
  | 1024 => 2 ^ 680 + 2 ^ 8 + 0x8D
  | _ => 0

/-- `FNV_BASIS(W)`, bound to the table of R122 (log entries 3 and 4). -/
def fnvBasis (w : Nat) : Nat :=
  match w with
  | 32 => 0x811C9DC5
  | 64 => 0xCBF29CE484222325
  | 128 => 0x6C62272E07BB014262B821756295C58D
  | 256 => 0xDD268DBCAAC550362D98C384C4E576CCC8B1536847B6BBB31023B4C8CAEE0535
  | 512 => 0xB86DB0B1171F4416DCA1E50F309990ACAC87D059C90000000000000000000D21E948F68A34C192F62EA79BC942DBE7CE182036415F56E34BAC982AAC4AFE9FD9
  | 1024 => 0x0000000000000000005F7A76758ECC4D32E56D5A591028B74B29FC4223FDADA16C3BF34EDA3674DA9A21D9000000000000000000000000000000000000000000000000000000000000000000000000000000000000000000000000000004C6D7EB6E73802734510A555F256CC005AE556BDE8CC9C6A93B21AFF4B16C71EE90B3
  | _ => 0

/-- `FnvStep(H, b)` for a width and a prime: XOR first, then the exact product modulo 2^W (R123, R125). -/
def fnvStepWith (w prime : Nat) (h : Word1024) (b : Byte) : Word1024 :=
  BitVec.ofNat 1024 (((h ^^^ b.setWidth 1024).toNat * prime) % 2 ^ w)

/-- `FnvStep(H, b)` (R123). -/
def fnvStep (w : Nat) (h : Word1024) (b : Byte) : Word1024 := fnvStepWith w (fnvPrime w) h b

/-- The start value of the hash (R121). -/
def fnvStart (w : Nat) : Word1024 := BitVec.ofNat 1024 (fnvBasis w)

/-- `fnv_reg(M)`: the fold of FnvStep over the message from the basis (R124). -/
def fnvReg (w : Nat) (m : List Byte) : Word1024 := m.foldl (fnvStep w) (fnvStart w)

end Sys2Proof.Machine
end

