-- ==== Sys2Proof/Machine/Ops.lean ====
section
/-! DEFINITION. The operations the commands share: error capture and its return (60_exceptions.md R184, R187), the digest buffer
(43_commands_data.md R163, R166), the active configuration (42_commands_control.md R141 to R143), opening and extending a
message (R144, R160), and reset (70_reset_and_hazards.md R200). -/

namespace Sys2Proof.Machine

/-- Error capture, the block's whole exception entry: `raise(E, a, w)` keeps the first error and marks a later one in ERR_OVF
(60_exceptions.md R184).  No control is transferred and nothing else is saved (R187). -/
def raiseError (code : ErrorCode) (arg : ErrorArg) (w : Word) (s : State) : State :=
  if s.err then { s with errOvf := true }
  else { s with err := true, errCode := code, errArg := arg, errInfo := w }

/-- The return from the error condition: the error state is 0 again (42_commands_control.md R145, 60_exceptions.md R187). -/
def clearError (s : State) : State :=
  { s with err := false, errOvf := false, errCode := .none, errArg := .none, errInfo := 0 }

/-- `InvalidateDigest()` (43_commands_data.md R166). -/
def invalidateDigest (s : State) : State := { s with dvalid := false, dlen := 0, dbuf := emptyDbuf }

/-- `CRC_R <- 0; FNV_H <- 0; MSGLEN <- 0`, part of every CONFIGURE (42_commands_control.md R142, R143). -/
def clearWorking (s : State) : State := { s with crcR := 0, fnvH := 0, msglen := 0 }

/-- `ConfigureCheck()`: the first check that fails, in the order of 42_commands_control.md R141, or none. -/
def configureCheck (s : State) : Option (ErrorCode × ErrorArg) :=
  match s.cfg.alg with
  | .crc =>
    if !legalCrcWidth s.cfg.crcWidth.toNat then some (.badCrcWidth, .crcWidth)
    else if 2 ^ s.cfg.crcWidth.toNat ≤ s.poly.toNat then some (.paramRange, .poly)
    else if 2 ^ s.cfg.crcWidth.toNat ≤ s.init.toNat then some (.paramRange, .init)
    else if 2 ^ s.cfg.crcWidth.toNat ≤ s.xorout.toNat then some (.paramRange, .xorout)
    else none
  | .fnv => if (fnvWidth s.cfg.fnvWsel).isNone then some (.badFnvWidth, .fnvWsel) else none

/-- The width a configuration gives A_W (R39, R142). -/
def cfgWidth (c : Cfg) : BitVec 11 :=
  match c.alg with
  | .crc => c.crcWidth.setWidth 11
  | .fnv => BitVec.ofNat 11 ((fnvWidth c.fnvWsel).getD 0)

/-- A successful CONFIGURE: the staging registers are latched, the table is built for CRC and emptied for FNV, and the engine
is configured with no message (R142). -/
def latchConfig (s : State) : State :=
  { invalidateDigest (clearWorking s) with
    acfg := s.cfg
    aW := cfgWidth s.cfg
    aPoly := s.poly
    aInit := s.init
    aXorout := s.xorout
    tvalid := s.cfg.alg == .crc
    table := if s.cfg.alg == .crc then crcTable (cfgWidth s.cfg).toNat s.poly else emptyTable
    engine := .tableBuilt }

/-- A failed CONFIGURE, after its error is captured: the active configuration is discarded (R143). -/
def discardConfig (s : State) : State :=
  { invalidateDigest (clearWorking s) with
    acfg := Cfg.zero
    aW := 0
    aPoly := 0
    aInit := 0
    aXorout := 0
    tvalid := false
    table := emptyTable
    engine := .uninitialized }

/-- A START whose precondition holds: the working register of the selected datapath takes its start value (R144, R105,
R121). -/
def openMessage (s : State) : State :=
  match s.acfg.alg with
  | .crc => { invalidateDigest s with crcR := s.aInit, msglen := 0, engine := .ready }
  | .fnv => { invalidateDigest s with fnvH := fnvStart s.aW.toNat, msglen := 0, engine := .ready }

/-- `Absorb(b)` (43_commands_data.md R160). -/
def absorb (s : State) (b : Byte) : State :=
  match s.acfg.alg with
  | .crc =>
    { invalidateDigest s with crcR := crcStep s.aW.toNat s.acfg.refin s.table s.crcR b, msglen := s.msglen + 1 }
  | .fnv => { invalidateDigest s with fnvH := fnvStep s.aW.toNat s.fnvH b, msglen := s.msglen + 1 }

/-- Absorbing a sequence of bytes, the first byte first (R162). -/
def absorbAll (s : State) (m : List Byte) : State := m.foldl absorb s

/-- The digest bytes of the open message: what FINAL computes from the working register (R163, R111, R127). -/
def digestNow (s : State) : List Byte :=
  match s.acfg.alg with
  | .crc => ser (crcFinalValue s.aW.toNat s.acfg.refout s.aXorout s.crcR) s.aW.toNat s.acfg.order
  | .fnv => ser s.fnvH s.aW.toNat .bigEndian

/-- A digest in the 128-byte buffer, followed by zero bytes (R43, R163). -/
def padDigest (d : List Byte) : List Byte := (List.range Config.digestBytes).map fun k => d.getD k 0

/-- A FINAL whose precondition holds: the buffer takes the digest, and the message stays open (R163). -/
def storeDigest (s : State) : State :=
  { s with dbuf := padDigest (digestNow s), dlen := BitVec.ofNat 8 (s.aW.toNat / 8), dvalid := true }

/-- Reset of the block (70_reset_and_hazards.md R200): every field of R46.  The host's side of the bus is no state of the
block and stays. -/
def applyReset (s : State) : State := { State.reset with pending := s.pending, responses := s.responses }

/-- The bus answers the access at its head. -/
def respond (r : Response) (s : State) : State := { s with responses := s.responses ++ [r] }

end Sys2Proof.Machine
end

