-- ==== Sys2Proof/Machine/Control.lean ====
section
/-! DEFINITION. The meanings of the control commands of 42_commands_control.md: NOP, CONFIGURE, START, CLEAR_ERR and
SOFT_RESET.  The command word an error captures is the command's own encoding, since every legal word has one meaning and every
command one word (30_encoding.md R83, R84). -/

namespace Sys2Proof.Machine

/-- NOP (R140): nothing changes. -/
def execNop (s : State) : Host.Outcome State Fault Refusal := .next s

/-- CONFIGURE: the check of R141, then its success (R142) or its failure (R143). -/
def execConfigure (s : State) : Host.Outcome State Fault Refusal :=
  match configureCheck s with
  | some (code, arg) => .next (discardConfig (raiseError code arg (encode .configure) s))
  | none => .next (latchConfig s)

/-- START (R144). -/
def execStart (s : State) : Host.Outcome State Fault Refusal :=
  match s.engine with
  | .uninitialized => .next (raiseError .badState .none (encode .start) s)
  | .tableBuilt => .next (openMessage s)
  | .ready => .next (openMessage s)

/-- CLEAR_ERR (R145). -/
def execClearErr (s : State) : Host.Outcome State Fault Refusal := .next (clearError s)

/-- SOFT_RESET (R146): the reset of 70_reset_and_hazards.md R200. -/
def execSoftReset (s : State) : Host.Outcome State Fault Refusal := .next (applyReset s)

end Sys2Proof.Machine
end

