-- ==== Sys2Proof/Machine/Data.lean ====
section
/-! DEFINITION. The meanings of the data commands of 43_commands_data.md: FEED_IMM, FEED_DATA and FINAL. -/

namespace Sys2Proof.Machine

/-- FEED_IMM (R161). -/
def execFeedImm (byte : Byte) (s : State) : Host.Outcome State Fault Refusal :=
  if s.engine = .ready then .next (absorb s byte)
  else .next (raiseError .badState .none (encode (.feedImm byte)) s)

/-- FEED_DATA: the first n bytes of DATA, byte 0 first (R162). -/
def execFeedData (n : Nat) (s : State) : Host.Outcome State Fault Refusal :=
  if s.engine = .ready then .next (absorbAll s (dataBytes s.data n))
  else .next (raiseError .badState .none (encode (.feedData n)) s)

/-- FINAL (R163). -/
def execFinal (s : State) : Host.Outcome State Fault Refusal :=
  if s.engine = .ready then .next (storeDigest s)
  else .next (raiseError .badState .none (encode .final) s)

end Sys2Proof.Machine
end

