-- ==== Sys2Proof/Machine/Registers.lean ====
section
/-! DEFINITION. The register window: the register at each offset (20_memory.md R61), what a read of it returns and what a write
to it stores (10_state.md R22 to R38, 20_memory.md R63 to R65).  A write to CMD is a command and stands in Machine/Bus.lean. -/

namespace Sys2Proof.Machine

/-- The constant of ID (10_state.md R22). -/
def idConstant : Word := 0x43484B01

/-- The register at a word-aligned byte offset below 0x040, by its index offset / 4 (R61). -/
def regBelow40 : Nat → Reg
  | 0 => .id
  | 1 => .status
  | 2 => .cmd
  | 3 => .data
  | 4 => .cfg
  | 5 => .acfg
  | 6 => .polyLo
  | 7 => .polyHi
  | 8 => .initLo
  | 9 => .initHi
  | 10 => .xoroutLo
  | 11 => .xoroutHi
  | 12 => .errInfo
  | 13 => .digestLen
  | 14 => .msglenLo
  | 15 => .msglenHi
  | _ => .reserved

/-- The register map of R61, for an offset that is a multiple of 4. -/
def regAt (offset : BitVec 12) : Reg :=
  if offset.toNat < 0x040 then regBelow40 (offset.toNat / 4)
  else if offset.toNat < 0x080 then .reserved
  else if offset.toNat < 0x100 then .digest (Fin.ofNat 32 ((offset.toNat - 0x080) / 4))
  else if offset.toNat < 0x800 then .reserved
  else if (offset.toNat - 0x800) / 4 % 2 = 0 then .crctabLo (BitVec.ofNat 8 ((offset.toNat - 0x800) / 8))
  else .crctabHi (BitVec.ofNat 8 ((offset.toNat - 0x800) / 8))

/-- The offset of a register by its name (R61, 30_encoding.md R87).  The reserved offsets have no one offset; the first of
them stands for the name. -/
def regOffset : Reg → BitVec 12
  | .id => 0x000
  | .status => 0x004
  | .cmd => 0x008
  | .data => 0x00C
  | .cfg => 0x010
  | .acfg => 0x014
  | .polyLo => 0x018
  | .polyHi => 0x01C
  | .initLo => 0x020
  | .initHi => 0x024
  | .xoroutLo => 0x028
  | .xoroutHi => 0x02C
  | .errInfo => 0x030
  | .digestLen => 0x034
  | .msglenLo => 0x038
  | .msglenHi => 0x03C
  | .digest j => BitVec.ofNat 12 (0x080 + 4 * j.val)
  | .crctabLo i => BitVec.ofNat 12 (0x800 + 8 * i.toNat)
  | .crctabHi i => BitVec.ofNat 12 (0x804 + 8 * i.toNat)
  | .reserved => 0x040

/-- Byte k of the digest buffer (10_state.md R43). -/
def digestByte (s : State) (k : Nat) : Byte := s.dbuf.getD k 0

/-- The CRCTAB window shows the table only while a CRC configuration is active (10_state.md R38). -/
def tableVisible (s : State) : Bool := s.engine != .uninitialized && s.acfg.alg == .crc

/-- The table entry the CRCTAB window shows (R38). -/
def visibleEntry (s : State) (i : Byte) : Word64 := if tableVisible s then tableAt s.table i else 0

/-- The value a 32-bit read of a register returns.  It is a function of the state alone, and CMD and the reserved offsets read
0 (10_state.md R22 to R38, 20_memory.md R63, R64, R69). -/
def readReg (s : State) : Reg → Word
  | .id => idConstant
  | .status => statusWord s
  | .cmd => 0
  | .data => s.data
  | .cfg => packCfg s.cfg
  | .acfg => packCfg s.acfg
  | .polyLo => s.polyLo
  | .polyHi => s.polyHi
  | .initLo => s.initLo
  | .initHi => s.initHi
  | .xoroutLo => s.xoroutLo
  | .xoroutHi => s.xoroutHi
  | .errInfo => s.errInfo
  | .digestLen => s.dlen.setWidth 32
  | .msglenLo => s.msglen.extractLsb' 0 32
  | .msglenHi => s.msglen.extractLsb' 32 32
  | .digest j =>
    wordOfLanes (digestByte s (4 * j.val)) (digestByte s (4 * j.val + 1)) (digestByte s (4 * j.val + 2))
      (digestByte s (4 * j.val + 3))
  | .crctabLo i => (visibleEntry s i).extractLsb' 0 32
  | .crctabHi i => (visibleEntry s i).extractLsb' 32 32
  | .reserved => 0

/-- A 32-bit write to a register other than CMD: a read-write register takes the value's writable bits, and a write to a
read-only register or a reserved offset is ignored (20_memory.md R63 to R65). -/
def writeReg (s : State) (r : Reg) (v : Word) : State :=
  match r with
  | .data => { s with data := v }
  | .cfg => { s with cfg := unpackCfg v }
  | .polyLo => { s with polyLo := v }
  | .polyHi => { s with polyHi := v }
  | .initLo => { s with initLo := v }
  | .initHi => { s with initHi := v }
  | .xoroutLo => { s with xoroutLo := v }
  | .xoroutHi => { s with xoroutHi := v }
  | .id => s
  | .status => s
  | .cmd => s
  | .acfg => s
  | .errInfo => s
  | .digestLen => s
  | .msglenLo => s
  | .msglenHi => s
  | .digest _ => s
  | .crctabLo _ => s
  | .crctabHi _ => s
  | .reserved => s

end Sys2Proof.Machine
end

