-- ==== Sys2Proof/Machine/Bus.lean ====
section
/-! DEFINITION. One event on the bus: the access the block accepts, the command a write to CMD issues, the bus error, and the
platform's reset (20_memory.md R60, R62 to R70; 30_encoding.md R84; 70_reset_and_hazards.md R200). -/

namespace Sys2Proof.Machine

/-- The block accepts an access of 32 bits at an offset that is a multiple of 4 (R62). -/
def acceptsAccess (size : AccessSize) (offset : BitVec 12) : Bool := size == .word && offset.toNat % 4 == 0

/-- A write of word `w` to CMD: an illegal word raises ILLEGAL_CMD, a legal one runs its command (30_encoding.md R84). -/
def issueCommand (w : Word) (s : State) : Host.Outcome State Fault Refusal :=
  match decode w with
  | .error _ => .next (raiseError .illegalCmd .none w s)
  | .ok i => exec i s

/-- An accepted write: a command at CMD, a register write elsewhere (R64). -/
def writeWord (offset : BitVec 12) (v : Word) (s : State) : Host.Outcome State Fault Refusal :=
  match regAt offset with
  | .cmd => issueCommand v s
  | r => .next (writeReg s r v)

/-- What the host does on a bus error, the parameter BUS_ERROR_EFFECT (R62, 92_eei_decisions.md D2: OPEN). -/
inductive BusErrorEffect where
  /-- The host's step stops there. -/
  | abort
  /-- The host goes on with its next access. -/
  | proceed
  /-- The host traps and issues these accesses from then on. -/
  | trap (handler : List BusEvent)
  deriving DecidableEq, Repr

/-- The bus's answer to an access the block does not accept; a read carries 0 data (R62). -/
def errorResponse : BusEvent → Response
  | .read _ _ => .readError 0
  | .write _ _ _ => .writeError
  | .reset => .writeError

/-- A bus error on event `e`, already taken from the bus: the block's state is unchanged, and the host does what the parameter
says (R62, 60_exceptions.md R189). -/
def busErrorOn (effect : BusErrorEffect) (e : BusEvent) (s : State) : Host.Outcome State Fault Refusal :=
  match effect with
  | .abort => .fault (.busError e)
  | .proceed => .next (respond (errorResponse e) s)
  | .trap handler => .next { respond (errorResponse e) s with pending := handler }

/-- One event, already taken from the bus (R62, R64, R68; 70_reset_and_hazards.md R200). -/
def handleEvent (effect : BusErrorEffect) (e : BusEvent) (s : State) : Host.Outcome State Fault Refusal :=
  match e with
  | .read size offset =>
    if acceptsAccess size offset then .next (respond (.readDone (readReg s (regAt offset))) s)
    else busErrorOn effect e s
  | .write size offset v =>
    if acceptsAccess size offset then writeWord offset v (respond .writeDone s) else busErrorOn effect e s
  | .reset => .next (applyReset s)

/-- The step for any value of BUS_ERROR_EFFECT: the bus delivers its next event, and every effect of it is complete before the
one after (R68).  With nothing on the bus the block keeps its state (60_exceptions.md R194; log entry 2). -/
def stepOn (effect : BusErrorEffect) (s : State) : Host.Outcome State Fault Refusal :=
  match s.pending with
  | [] => .next s
  | e :: rest => handleEvent effect e { s with pending := rest }

/-- The window offset of a byte address on the host's bus, for a window at `chkBase`; an address outside the window does not
reach the block (R60). -/
def windowOffset (p : Config.Placement) (addr : Nat) : Option (BitVec 12) :=
  if p.chkBase ≤ addr ∧ addr < p.chkBase + Config.windowBytes then some (BitVec.ofNat 12 (addr - p.chkBase)) else none

/-- `MemRead(addr, 4)` at a window offset (00_scope.md R11). -/
def memRead (offset : BitVec 12) : BusEvent := .read .word offset

/-- `MemWrite(addr, 4, v)` at a window offset (00_scope.md R11). -/
def memWrite (offset : BitVec 12) (v : Word) : BusEvent := .write .word offset v

/-- A host's access at a byte address of its bus, as an event of the block's bus (R60). -/
def readAddress (p : Config.Placement) (size : AccessSize) (addr : Nat) : Option BusEvent :=
  (windowOffset p addr).map fun o => .read size o

/-- A host's write at a byte address of its bus (R60). -/
def writeAddress (p : Config.Placement) (size : AccessSize) (addr : Nat) (v : Word) : Option BusEvent :=
  (windowOffset p addr).map fun o => .write size o v

end Sys2Proof.Machine
end

