-- ==== Sys2Proof/Machine/Step.lean ====
section
/-! DEFINITION. The step: the bus delivers its next event.  A model takes an access the block does not accept as a fault of the
host step (20_memory.md R62), so the step is `stepOn` with BUS_ERROR_EFFECT bound to `abort` (log entry 5). -/

namespace Sys2Proof.Machine

/-- One step of the machine. -/
def step (s : State) : Host.Outcome State Fault Refusal := stepOn .abort s

/-- The state in which the bus delivers the write of the word to CMD next: the block fetches no instructions, and a command
acts at the moment its word is written to CMD (10_state.md R21, R25; 20_memory.md R75). -/
def State.withFetchWord (s : State) (nbits w : Nat) : State :=
  { s with pending := memWrite (regOffset .cmd) (BitVec.ofNat 32 (w % 2 ^ nbits)) :: s.pending }

end Sys2Proof.Machine
end

