-- ==== Sys2Proof/Machine/Program.lean ====
section
/-! DEFINITION. Host programs: the line forms of 30_encoding.md R87 and R88 and their encoding as bus transactions (R90). -/

namespace Sys2Proof.Machine

/-- Where a `wr` or `rd` line points: a register's name, or a hex offset (R87). -/
inductive Target where
  | reg (r : Reg)
  | offset (o : BitVec 12)
  deriving DecidableEq, Repr

/-- A parameter that `wr64` writes (R88). -/
inductive Param where
  | poly
  | init
  | xorout
  deriving DecidableEq, Repr

/-- One line of a host program (R87, R88).  The line `digest` is told the digest's length in bytes, which fixes the number of
DIGEST words it reads (log entry 16).  The lines `cfg.crc` and `cfg.fnv` carry the width W as it is written; a `cfg.fnv` whose
W has no code in 10_state.md R29 expands to no transaction, which R88 leaves open and is the model's choice (log entry 18,
which also says what `cfg.crc` and `feed.data` lines give at values outside their range). -/
inductive HostLine where
  | wr (t : Target) (v : Word)
  | rd (t : Target)
  | rdExpect (t : Target) (v : Word)
  | nop
  | configure
  | start
  | feedImm (byte : Byte)
  | feedData (n : Nat)
  | final
  | clearErr
  | softReset
  | word (w : Word)
  | wr64 (p : Param) (v : Word64)
  | cfgCrc (w : Nat) (refin refout : Bool) (order : ByteOrder)
  | cfgFnv (w : Nat)
  | feed (m : List Byte)
  | digest (len : Nat)
  deriving DecidableEq, Repr

/-- The window offset a line points at (R87). -/
def targetOffset : Target → BitVec 12
  | .reg r => regOffset r
  | .offset o => o

/-- A command as a bus transaction: its word, written to CMD (R90). -/
def commandEvent (i : Instr) : BusEvent := memWrite (regOffset .cmd) (encode i)

/-- The registers of a 64-bit parameter, LO first (R88). -/
def paramRegs : Param → Reg × Reg
  | .poly => (.polyLo, .polyHi)
  | .init => (.initLo, .initHi)
  | .xorout => (.xoroutLo, .xoroutHi)

/-- The expansion of `feed`: full groups of four bytes, then a final shorter group (R88). -/
def feedEvents : List Byte → List BusEvent
  | b0 :: b1 :: b2 :: b3 :: rest =>
    memWrite (regOffset .data) (wordOfLanes b0 b1 b2 b3) :: commandEvent (.feedData 4) :: feedEvents rest
  | [b0, b1, b2] => [memWrite (regOffset .data) (wordOfLanes b0 b1 b2 0), commandEvent (.feedData 3)]
  | [b0, b1] => [memWrite (regOffset .data) (wordOfLanes b0 b1 0 0), commandEvent (.feedData 2)]
  | [b0] => [memWrite (regOffset .data) (wordOfLanes b0 0 0 0), commandEvent (.feedData 1)]
  | [] => []

/-- The DIGEST words that hold a digest of `len` bytes: ceil(len / 4) of them (R88). -/
def digestReads (len : Nat) : List BusEvent :=
  (List.range ((len + 3) / 4)).map fun j => memRead (regOffset (.digest (Fin.ofNat 32 j)))

/-- The word that `cfg.crc` writes to CFG (R88). -/
def cfgCrcWord (w : Nat) (refin refout : Bool) (order : ByteOrder) : Word :=
  BitVec.ofNat 32 w <<< 8 ||| (BitVec.ofBool refin).setWidth 32 <<< 1 ||| (BitVec.ofBool refout).setWidth 32 <<< 2
    ||| order.toBit.setWidth 32 <<< 3

/-- The word that `cfg.fnv` writes to CFG, for the code `sel` of the width (R88). -/
def cfgFnvWord (sel : BitVec 3) : Word := 0x00000001 ||| sel.setWidth 32 <<< 4

/-- The bus transactions of a line (R87, R88, R90).  A `cfg.fnv` of a width with no code has none (log entry 18). -/
def lineEvents : HostLine → List BusEvent
  | .wr t v => [memWrite (targetOffset t) v]
  | .rd t => [memRead (targetOffset t)]
  | .rdExpect t _ => [memRead (targetOffset t)]
  | .nop => [commandEvent .nop]
  | .configure => [commandEvent .configure]
  | .start => [commandEvent .start]
  | .feedImm byte => [commandEvent (.feedImm byte)]
  | .feedData n => [commandEvent (.feedData n)]
  | .final => [commandEvent .final]
  | .clearErr => [commandEvent .clearErr]
  | .softReset => [commandEvent .softReset]
  | .word w => [memWrite (regOffset .cmd) w]
  | .wr64 p v =>
    [memWrite (regOffset (paramRegs p).1) (v.extractLsb' 0 32), memWrite (regOffset (paramRegs p).2) (v.extractLsb' 32 32)]
  | .cfgCrc w refin refout order => [memWrite (regOffset .cfg) (cfgCrcWord w refin refout order)]
  | .cfgFnv w => (fnvCode w).toList.map fun sel => memWrite (regOffset .cfg) (cfgFnvWord sel)
  | .feed m => feedEvents m
  | .digest len => commandEvent .final :: memRead (regOffset .digestLen) :: digestReads len

/-- A host program's bus transactions, in order (R90). -/
def programEvents (p : List HostLine) : List BusEvent := p.flatMap lineEvents

/-- The values a host has read so far, in order: what can be observed of the block (00_scope.md R16). -/
def readValues : List Response → List Word
  | [] => []
  | .readDone v :: rest => v :: readValues rest
  | .readError v :: rest => v :: readValues rest
  | .writeDone :: rest => readValues rest
  | .writeError :: rest => readValues rest

/-- The block with a host program on its bus. -/
def load (p : List HostLine) (s : State) : State := { s with pending := programEvents p }

end Sys2Proof.Machine
end

