-- ==== Sys2Proof/Safety.lean ====
section
/-! DEFINITION. What claims about CHK-1 are stated in: which parts of the state a transition leaves alone, the invariants of
10_state.md R40 to R47, runs, and the interleavings of two masters (20_memory.md R72). -/

namespace Sys2Proof.Machine

/-- The staging registers and DATA are unchanged (10_state.md R26 to R33). -/
structure SameStaging (s t : State) : Prop where
  data : t.data = s.data
  cfg : t.cfg = s.cfg
  polyLo : t.polyLo = s.polyLo
  polyHi : t.polyHi = s.polyHi
  initLo : t.initLo = s.initLo
  initHi : t.initHi = s.initHi
  xoroutLo : t.xoroutLo = s.xoroutLo
  xoroutHi : t.xoroutHi = s.xoroutHi

/-- The active configuration and the table are unchanged (R39, R40). -/
structure SameActive (s t : State) : Prop where
  acfg : t.acfg = s.acfg
  aW : t.aW = s.aW
  aPoly : t.aPoly = s.aPoly
  aInit : t.aInit = s.aInit
  aXorout : t.aXorout = s.aXorout
  tvalid : t.tvalid = s.tvalid
  table : t.table = s.table

/-- The working registers and MSGLEN are unchanged (R36, R41, R42). -/
structure SameWorking (s t : State) : Prop where
  crcR : t.crcR = s.crcR
  fnvH : t.fnvH = s.fnvH
  msglen : t.msglen = s.msglen

/-- The digest buffer is unchanged (R43). -/
structure SameDigest (s t : State) : Prop where
  dvalid : t.dvalid = s.dvalid
  dlen : t.dlen = s.dlen
  dbuf : t.dbuf = s.dbuf

/-- The error state is unchanged (R44). -/
structure SameError (s t : State) : Prop where
  err : t.err = s.err
  errOvf : t.errOvf = s.errOvf
  errCode : t.errCode = s.errCode
  errArg : t.errArg = s.errArg
  errInfo : t.errInfo = s.errInfo

/-- The host's side of the bus is unchanged (the model's own fields). -/
structure SameBus (s t : State) : Prop where
  pending : t.pending = s.pending
  responses : t.responses = s.responses

/-- Everything but the error state is unchanged. -/
structure SameButError (s t : State) : Prop where
  engine : t.engine = s.engine
  staging : SameStaging s t
  active : SameActive s t
  working : SameWorking s t
  digest : SameDigest s t
  bus : SameBus s t

/-- Everything but the host's side of the bus is unchanged: the block's whole state (R46). -/
structure SameBlock (s t : State) : Prop where
  engine : t.engine = s.engine
  staging : SameStaging s t
  active : SameActive s t
  working : SameWorking s t
  digest : SameDigest s t
  error : SameError s t

/-- The digest buffer is empty: DVALID = 0, DLEN = 0 and all 128 bytes 0 (R43, 43_commands_data.md R166). -/
structure DigestEmpty (t : State) : Prop where
  dvalid : t.dvalid = false
  dlen : t.dlen = 0
  dbuf : t.dbuf = emptyDbuf

/-- The working registers and MSGLEN are 0 (R47). -/
structure WorkingZero (t : State) : Prop where
  crcR : t.crcR = 0
  fnvH : t.fnvH = 0
  msglen : t.msglen = 0

/-- There is no active configuration and no table (R39, R40). -/
structure NoConfig (t : State) : Prop where
  acfg : t.acfg = Cfg.zero
  aW : t.aW = 0
  aPoly : t.aPoly = 0
  aInit : t.aInit = 0
  aXorout : t.aXorout = 0
  tvalid : t.tvalid = false
  table : t.table = emptyTable

/-- Every field of the block holds the value that reset gives it (R46, 70_reset_and_hazards.md R200). -/
structure ResetValues (t : State) : Prop where
  engine : t.engine = .uninitialized
  digest : DigestEmpty t
  err : t.err = false
  errOvf : t.errOvf = false
  errCode : t.errCode = .none
  errArg : t.errArg = .none
  errInfo : t.errInfo = 0
  data : t.data = 0
  cfg : t.cfg = Cfg.zero
  poly : t.poly = 0
  init : t.init = 0
  xorout : t.xorout = 0
  config : NoConfig t
  working : WorkingZero t

/-- A CRC configuration is active: STATE is not UNINITIALIZED and A_ALG = 0. -/
def CrcActive (s : State) : Prop := s.engine ≠ .uninitialized ∧ s.acfg.alg = .crc

/-- An FNV configuration is active: STATE is not UNINITIALIZED and A_ALG = 1. -/
def FnvActive (s : State) : Prop := s.engine ≠ .uninitialized ∧ s.acfg.alg = .fnv

/-- From `s` to `t`, error capture recorded the error `code` with argument `arg` of command word `w`: the first error is kept,
a later one only sets ERR_OVF (60_exceptions.md R184). -/
structure Captured (code : ErrorCode) (arg : ErrorArg) (w : Word) (s t : State) : Prop where
  err : t.err = true
  first : s.err = false → t.errOvf = s.errOvf ∧ t.errCode = code ∧ t.errArg = arg ∧ t.errInfo = w
  later : s.err = true → t.errOvf = true ∧ t.errCode = s.errCode ∧ t.errArg = s.errArg ∧ t.errInfo = s.errInfo

/-- The staging registers pass every check of CONFIGURE (42_commands_control.md R141). -/
inductive ConfigPasses (s : State) : Prop where
  | crc (alg : s.cfg.alg = .crc) (width : s.cfg.crcWidth.toNat ∈ [8, 16, 24, 32, 40, 48, 56, 64])
      (poly : s.poly.toNat < 2 ^ s.cfg.crcWidth.toNat) (init : s.init.toNat < 2 ^ s.cfg.crcWidth.toNat)
      (xorout : s.xorout.toNat < 2 ^ s.cfg.crcWidth.toNat)
  | fnv (alg : s.cfg.alg = .fnv) (width : s.cfg.fnvWsel.toNat ≤ 5)

/-- The first check of CONFIGURE that fails, with its error and argument, in R141's order (60_exceptions.md R186). -/
inductive FirstFailure (s : State) : ErrorCode → ErrorArg → Prop where
  | crcWidth (alg : s.cfg.alg = .crc) (width : s.cfg.crcWidth.toNat ∉ [8, 16, 24, 32, 40, 48, 56, 64]) :
      FirstFailure s .badCrcWidth .crcWidth
  | poly (alg : s.cfg.alg = .crc) (width : s.cfg.crcWidth.toNat ∈ [8, 16, 24, 32, 40, 48, 56, 64])
      (poly : 2 ^ s.cfg.crcWidth.toNat ≤ s.poly.toNat) : FirstFailure s .paramRange .poly
  | init (alg : s.cfg.alg = .crc) (width : s.cfg.crcWidth.toNat ∈ [8, 16, 24, 32, 40, 48, 56, 64])
      (poly : s.poly.toNat < 2 ^ s.cfg.crcWidth.toNat) (init : 2 ^ s.cfg.crcWidth.toNat ≤ s.init.toNat) :
      FirstFailure s .paramRange .init
  | xorout (alg : s.cfg.alg = .crc) (width : s.cfg.crcWidth.toNat ∈ [8, 16, 24, 32, 40, 48, 56, 64])
      (poly : s.poly.toNat < 2 ^ s.cfg.crcWidth.toNat) (init : s.init.toNat < 2 ^ s.cfg.crcWidth.toNat)
      (xorout : 2 ^ s.cfg.crcWidth.toNat ≤ s.xorout.toNat) : FirstFailure s .paramRange .xorout
  | fnvWidth (alg : s.cfg.alg = .fnv) (width : 6 ≤ s.cfg.fnvWsel.toNat) : FirstFailure s .badFnvWidth .fnvWsel

/-- ERRARG names what ERRCODE is about (60_exceptions.md R181, R182). -/
def argFits : ErrorCode → ErrorArg → Bool
  | .none, .none => true
  | .illegalCmd, .none => true
  | .badState, .none => true
  | .badCrcWidth, .crcWidth => true
  | .badFnvWidth, .fnvWsel => true
  | .paramRange, .poly => true
  | .paramRange, .init => true
  | .paramRange, .xorout => true
  | _, _ => false

/-- What a valid CRC configuration is: a legal width, parameters below 2^W, and the built table (R28, R31 to R33, R39, R40,
R47; 40_crc_engine.md R100). -/
structure CrcConfigured (s : State) : Prop where
  width : legalCrcWidth s.aW.toNat = true
  latched : s.aW = s.acfg.crcWidth.setWidth 11
  poly : s.aPoly.toNat < 2 ^ s.aW.toNat
  init : s.aInit.toNat < 2 ^ s.aW.toNat
  xorout : s.aXorout.toNat < 2 ^ s.aW.toNat
  tvalid : s.tvalid = true
  entries : ∀ b : Byte, tableAt s.table b = crcTableEntry s.aW.toNat s.aPoly b
  below : ∀ b : Byte, (tableAt s.table b).toNat < 2 ^ s.aW.toNat

/-- What a valid FNV configuration is: the width its code selects, and no table (R29, R39, R40). -/
structure FnvConfigured (s : State) : Prop where
  width : fnvWidth s.acfg.fnvWsel = some s.aW.toNat
  tvalid : s.tvalid = false
  table : s.table = emptyTable

/-- CRC_R and MSGLEN are those of some message (R36, R47; 40_crc_engine.md R108). -/
def CrcMessage (s : State) : Prop :=
  ∃ m : List Byte, s.crcR = crcReg s.aW.toNat s.acfg.refin s.table s.aInit m ∧ s.msglen = BitVec.ofNat 64 m.length

/-- FNV_H and MSGLEN are those of some message (R36, R47; 41_fnv_engine.md R124). -/
def FnvMessage (s : State) : Prop :=
  ∃ m : List Byte, s.fnvH = fnvReg s.aW.toNat m ∧ s.msglen = BitVec.ofNat 64 m.length

/-- The invariant of the block: R47, with the invariants of R40 to R44 for the table, the working registers, the digest buffer
and the error state. -/
structure Inv (s : State) : Prop where
  unconfigured : s.engine = .uninitialized → NoConfig s ∧ WorkingZero s ∧ s.dvalid = false
  built : s.engine = .tableBuilt → WorkingZero s ∧ s.dvalid = false
  crcConfigured : CrcActive s → CrcConfigured s
  fnvConfigured : FnvActive s → FnvConfigured s
  crcOpen : s.engine = .ready → s.acfg.alg = .crc → CrcMessage s
  fnvOpen : s.engine = .ready → s.acfg.alg = .fnv → FnvMessage s
  crcBelow : CrcActive s → s.crcR.toNat < 2 ^ s.aW.toNat
  fnvBelow : FnvActive s → s.fnvH.toNat < 2 ^ s.aW.toNat
  crcIdle : ¬ CrcActive s → s.crcR = 0
  fnvIdle : ¬ FnvActive s → s.fnvH = 0
  digestOpen : s.dvalid = true → s.engine = .ready
  digestEmpty : s.dvalid = false → DigestEmpty s
  digestHeld : s.dvalid = true → s.dbuf = padDigest (digestNow s) ∧ s.dlen.toNat = s.aW.toNat / 8
  dbufLength : s.dbuf.length = 128
  tableLength : s.table.length = 256
  errorClear : s.err = false → s.errOvf = false ∧ s.errCode = .none ∧ s.errArg = .none ∧ s.errInfo = 0
  errorSet : s.err = true → s.errCode ≠ .none ∧ argFits s.errCode s.errArg = true

/-- `CRC(M)` for a width, a polynomial, an initial value, a final mask, the reflection flags and a byte order
(40_crc_engine.md R112). -/
def crcDigest (w : Nat) (p i x : Word64) (refin refout : Bool) (order : ByteOrder) (m : List Byte) : List Byte :=
  ser (crcFinalValue w refout x (crcReg w refin (crcTable w p) i m)) w order

/-- `FNV(M)` at a width (41_fnv_engine.md R128). -/
def fnvDigest (w : Nat) (m : List Byte) : List Byte := ser (fnvReg w m) w .bigEndian

/-- The digest of a message under the active configuration (43_commands_data.md R165). -/
def activeDigest (s : State) (m : List Byte) : List Byte :=
  match s.acfg.alg with
  | .crc => crcDigest s.aW.toNat s.aPoly s.aInit s.aXorout s.acfg.refin s.acfg.refout s.acfg.order m
  | .fnv => fnvDigest s.aW.toNat m

/-- `n` steps, stopping at the first fault or refusal. -/
def run : Nat → State → Host.Outcome State Fault Refusal
  | 0, s => .next s
  | n + 1, s =>
    match step s with
    | .next t => run n t
    | .fault r => .fault r
    | .refused r => .refused r

/-- Commands run one after the other, stopping at the first fault or refusal. -/
def execAll : List Instr → State → Host.Outcome State Fault Refusal
  | [], s => .next s
  | i :: rest, s =>
    match exec i s with
    | .next t => execAll rest t
    | .fault r => .fault r
    | .refused r => .refused r

/-- With DATA holding `d`, the events feed the message `m`, by any mix of FEED_IMM, FEED_DATA and writes to DATA
(43_commands_data.md R165). -/
inductive Feeds : Word → List BusEvent → List Byte → Prop
  | done (d : Word) : Feeds d [] []
  | imm {d : Word} {f : List BusEvent} {m : List Byte} (b : Byte) :
      Feeds d f m → Feeds d (commandEvent (.feedImm b) :: f) (b :: m)
  | data {d : Word} {f : List BusEvent} {m : List Byte} (n : Nat) : 1 ≤ n → n ≤ 4 →
      Feeds d f m → Feeds d (commandEvent (.feedData n) :: f) (dataBytes d n ++ m)
  | write {d : Word} {f : List BusEvent} {m : List Byte} (v : Word) :
      Feeds v f m → Feeds d (memWrite (regOffset .data) v :: f) m

/-- The event holds no Absorb, START, CONFIGURE or reset, and is accepted: a read, a register write, or a CMD write of a NOP,
FINAL, CLEAR_ERR or illegal word (43_commands_data.md R164). -/
def keepsDigest : BusEvent → Bool
  | .read size offset => acceptsAccess size offset
  | .write size offset v =>
    acceptsAccess size offset &&
      (regAt offset != .cmd ||
        match decode v with
        | .ok .nop => true
        | .ok .final => true
        | .ok .clearErr => true
        | .ok _ => false
        | .error _ => true)
  | .reset => false

/-- The FNV engine of the two states cannot be told apart: they differ at most in what FNV ignores (41_fnv_engine.md R120) and
in the error state. -/
structure FnvAlike (s t : State) : Prop where
  algLeft : s.acfg.alg = .fnv
  algRight : t.acfg.alg = .fnv
  engine : t.engine = s.engine
  width : t.aW = s.aW
  data : t.data = s.data
  fnvH : t.fnvH = s.fnvH
  msglen : t.msglen = s.msglen
  digest : SameDigest s t

/-- The event gets no bus error: it is an access of 32 bits at a multiple of 4, or the platform's reset (20_memory.md R62). -/
def accepted : BusEvent → Bool
  | .read size offset => acceptsAccess size offset
  | .write size offset _ => acceptsAccess size offset
  | .reset => true

/-- A safe run: every event the bus still has to deliver is accepted. -/
def SafeBus (s : State) : Prop := ∀ e ∈ s.pending, accepted e = true

/-- The event is a read. -/
def isRead : BusEvent → Bool
  | .read _ _ => true
  | .write _ _ _ => false
  | .reset => false

/-- One of two masters on the bus (20_memory.md R72). -/
inductive Master where
  | first
  | second
  deriving DecidableEq, Repr

/-- What one master issues, in its own order, when the bus order of the two is `z` (R72). -/
def issuedBy (m : Master) : List (Master × BusEvent) → List BusEvent
  | [] => []
  | (n, e) :: z => if n = m then e :: issuedBy m z else issuedBy m z

/-- The events as the bus delivers them: the two masters interleaved (R72). -/
def busOrder (z : List (Master × BusEvent)) : List BusEvent := z.map Prod.snd

/-- Of the answers to the interleaved events, those one master gets (00_scope.md R16): each access has one answer, and the
platform's reset has none. -/
def answersTo (m : Master) : List (Master × BusEvent) → List Response → List Response
  | [], _ => []
  | (_, .reset) :: z, rs => answersTo m z rs
  | (_, .read _ _) :: _, [] => []
  | (_, .write _ _ _) :: _, [] => []
  | (n, .read _ _) :: z, r :: rs => if n = m then r :: answersTo m z rs else answersTo m z rs
  | (n, .write _ _ _) :: z, r :: rs => if n = m then r :: answersTo m z rs else answersTo m z rs

end Sys2Proof.Machine
end

