-- ==== Sys2Proof/Certificates/Slice0/Obligations.lean ====
section
/-! DEFINITION. What is claimed of CHK-1, for the provers.  The block has no memory of its own (20_memory.md R60): a frame says
which parts of the record of 10_state.md R46 a command leaves alone, and every register of the window is a function of that
record. -/

open Sys2Proof Sys2Proof.Machine

/-! ## Encoding -/

/-- R83: the words of the opcode map, written out, decode to their commands; operands at their extreme values. -/
def Obligations.WrittenWordsDecodeToTheirCommands : Prop :=
  decode 0x00000000 = .ok .nop ∧ decode 0x01000000 = .ok .configure ∧ decode 0x02000000 = .ok .start
    ∧ decode 0x03000061 = .ok (.feedImm 0x61) ∧ decode 0x030000FF = .ok (.feedImm 0xFF)
    ∧ decode 0x04000000 = .ok (.feedData 1) ∧ decode 0x04000003 = .ok (.feedData 4) ∧ decode 0x05000000 = .ok .final
    ∧ decode 0x06000000 = .ok .clearErr ∧ decode 0x07000000 = .ok .softReset

/-- R84: which word decodes to which command, for every word and every command. -/
def Obligations.DecodeGivesEachCommandItsOneWord : Prop :=
  ∀ w : Word,
    (decode w = .ok .nop ↔ w = 0x00000000) ∧ (decode w = .ok .configure ↔ w = 0x01000000)
      ∧ (decode w = .ok .start ↔ w = 0x02000000)
      ∧ (∀ b : Byte, decode w = .ok (.feedImm b) ↔ w = 0x03000000 + b.setWidth 32)
      ∧ (∀ n : Nat, decode w = .ok (.feedData n) ↔ 1 ≤ n ∧ n ≤ 4 ∧ w = 0x04000000 + BitVec.ofNat 32 (n - 1))
      ∧ (decode w = .ok .final ↔ w = 0x05000000) ∧ (decode w = .ok .clearErr ↔ w = 0x06000000)
      ∧ (decode w = .ok .softReset ↔ w = 0x07000000)

/-- R83, R85: a word is illegal exactly when it matches no row of the opcode map, and no word matches two rows. -/
def Obligations.IllegalWordsAreThoseNoRowMatches : Prop :=
  ∀ w : Word,
    ((∃ e : Reject, decode w = .error e) ↔ ∀ r ∈ opcodeMap, rowMatches r w = false)
      ∧ ∀ r ∈ opcodeMap, ∀ r' ∈ opcodeMap, rowMatches r w = true → rowMatches r' w = true → r = r'

/-- R83, R84: decoding inverts encoding on every well-formed command, and encoding inverts decoding on every legal word. -/
def Obligations.DecodeAndEncodeAgree : Prop :=
  (∀ i : Instr, i.wellFormed = true → decode (encode i) = .ok i)
    ∧ ∀ (w : Word) (i : Instr), decode w = .ok i → i.wellFormed = true ∧ encode i = w

/-! ## The step -/

/-- R84, R25: when the bus delivers a write of a legal word to CMD, the step is `exec` of the command the word decodes to, with
the event taken from the bus and the write answered.  The bus fields are the model's own (log entry 1), and that `withFetchWord`
places exactly such a write is the model's choice (log entry 6). -/
def Obligations.StepRunsTheDecodedCommand : Prop :=
  (∀ (s : State) (rest : List BusEvent) (w : Word) (i : Instr), s.pending = .write .word 0x008 w :: rest →
      decode w = .ok i → step s = exec i { s with pending := rest, responses := s.responses ++ [.writeDone] })
    ∧ ∀ (s : State) (w : Word) (i : Instr), decode w = .ok i →
      step (s.withFetchWord 32 w.toNat) = exec i { s with responses := s.responses ++ [.writeDone] }

/-- R85: a write to CMD of a word that matches no row of the opcode map records ILLEGAL_CMD with the word and changes nothing
else.  The bus fields are the model's own (log entry 1). -/
def Obligations.IllegalWordRecordsIllegalCmd : Prop :=
  ∀ (s : State) (rest : List BusEvent) (w : Word), s.pending = .write .word 0x008 w :: rest →
    (∀ r ∈ opcodeMap, rowMatches r w = false) →
      ∃ t : State, step s = .next t ∧ Captured .illegalCmd .none w s t ∧ t.engine = s.engine ∧ SameStaging s t
        ∧ SameActive s t ∧ SameWorking s t ∧ SameDigest s t ∧ t.pending = rest
        ∧ t.responses = s.responses ++ [.writeDone]

/-- R68, R206: while every event on the bus is accepted, a step answers a next state and the bus stays so; no step is ever
refused.  The bus fields are the model's own (log entry 1), and that a step with an empty bus answers is its choice (log entry
2). -/
def Obligations.AcceptedEventsAlwaysComplete : Prop :=
  (∀ s : State, SafeBus s → ∃ t : State, step s = .next t ∧ SafeBus t)
    ∧ ∀ (effect : BusErrorEffect) (s : State) (r : Refusal), stepOn effect s ≠ .refused r

/-- R62, R189: an access of another size or at a misaligned offset gets a bus error.  The step stops with that fault; for a
host that goes on, the block's state is unchanged, and the answer is an error, with 0 data for a read.  The hosts `proceed` and
`trap`, and what they leave on the bus, are the model's reading of BUS_ERROR_EFFECT (log entry 5); the bus fields are the model's
own (log entry 1). -/
def Obligations.BadAccessGetsABusError : Prop :=
  ∀ (s : State) (e : BusEvent) (rest : List BusEvent) (size : AccessSize) (offset : BitVec 12) (v : Word),
    s.pending = e :: rest → (size ≠ .word ∨ offset.toNat % 4 ≠ 0) →
      (e = .read size offset ∨ e = .write size offset v) →
        step s = .fault (.busError e)
          ∧ (∃ t : State, stepOn .proceed s = .next t ∧ SameBlock s t ∧ t.pending = rest
              ∧ t.responses = s.responses ++ [if e = .read size offset then .readError 0 else .writeError])
          ∧ ∀ handler : List BusEvent, ∃ t : State, stepOn (.trap handler) s = .next t ∧ SameBlock s t
              ∧ t.pending = handler
              ∧ t.responses = s.responses ++ [if e = .read size offset then .readError 0 else .writeError]

/-- R69, R64: an accepted read answers with the register's value and changes no state of the block, and every register reads
as before.  The bus fields are the
model's own (log entry 1). -/
def Obligations.ReadsHaveNoSideEffect : Prop :=
  ∀ (s : State) (rest : List BusEvent) (offset : BitVec 12), s.pending = .read .word offset :: rest →
    offset.toNat % 4 = 0 →
      ∃ t : State, step s = .next t ∧ SameBlock s t ∧ (∀ r : Reg, readReg t r = readReg s r)
        ∧ t.pending = rest
        ∧ t.responses = s.responses ++ [.readDone (readReg s (regAt offset))]

/-- R64, R65, R63: an accepted write outside CMD stores the value's writable bits in a read-write register, and is ignored
elsewhere; every other register reads as before.  The bus fields are the model's own (log entry 1). -/
def Obligations.RegisterWritesStoreTheWritableBits : Prop :=
  ∀ (s : State) (rest : List BusEvent) (offset : BitVec 12) (v : Word), s.pending = .write .word offset v :: rest →
    offset.toNat % 4 = 0 → offset ≠ 0x008 →
      ∃ t : State, step s = .next t ∧ t.pending = rest ∧ t.responses = s.responses ++ [.writeDone]
        ∧ (∀ r : Reg, r ≠ regAt offset → readReg t r = readReg s r)
        ∧ readReg t (regAt offset)
            = (if offset ∈ [0x00C, 0x018, 0x01C, 0x020, 0x024, 0x028, 0x02C] then v
              else if offset = 0x010 then v &&& 0x00007F7F
              else readReg s (regAt offset))
        ∧ t.engine = s.engine ∧ SameActive s t ∧ SameWorking s t ∧ SameDigest s t ∧ SameError s t

/-- R70: a step that changes the engine state delivers a write to CMD or the platform's reset.  The bus fields are the model's own (log entry 1). -/
def Obligations.OnlyCommandsAndResetChangeTheEngine : Prop :=
  ∀ (effect : BusErrorEffect) (s t : State), stepOn effect s = .next t →
    (t.engine = s.engine ∧ SameActive s t ∧ SameWorking s t ∧ SameDigest s t ∧ SameError s t)
      ∨ ∃ rest : List BusEvent, s.pending = .reset :: rest ∨ ∃ v : Word, s.pending = .write .word 0x008 v :: rest

/-- R200, R146: the platform's reset and SOFT_RESET both complete and set every piece of the block's state to its reset value,
whatever it was; ID keeps its constant.  That both leave `pending` and `responses`, which are the model's own and no state of the
block, is the model's choice (log entry 1), and so is reset as an event between two accesses (log entry 10). -/
def Obligations.ResetRestoresEveryResetValue : Prop :=
  decode 0x07000000 = .ok .softReset
    ∧ (∀ s : State, ∃ t : State, exec .softReset s = .next t ∧ ResetValues t ∧ readReg t .status = 0
        ∧ readReg t .id = 0x43484B01 ∧ SameBus s t)
    ∧ ∀ (effect : BusErrorEffect) (s : State) (rest : List BusEvent), s.pending = .reset :: rest →
      ∃ t : State, stepOn effect s = .next t ∧ ResetValues t ∧ readReg t .id = 0x43484B01 ∧ t.pending = rest
        ∧ t.responses = s.responses

/-! ## The register window -/

/-- R61: the rows of the register map at their offsets; every named register has its own aligned offset and is the register
there, and the reserved offsets are the two ranges of the map. -/
def Obligations.RegisterMapIsOneToOne : Prop :=
  (∀ (o : BitVec 12) (r : Reg),
      (o, r) ∈ [(0x000, Reg.id), (0x004, .status), (0x008, .cmd), (0x00C, .data), (0x010, .cfg), (0x014, .acfg),
          (0x018, .polyLo), (0x01C, .polyHi), (0x020, .initLo), (0x024, .initHi), (0x028, .xoroutLo), (0x02C, .xoroutHi),
          (0x030, .errInfo), (0x034, .digestLen), (0x038, .msglenLo), (0x03C, .msglenHi)] →
        regAt o = r ∧ regOffset r = o)
    ∧ (∀ j : Fin 32, (regOffset (.digest j)).toNat = 0x080 + 4 * j.val)
    ∧ (∀ i : Byte, (regOffset (.crctabLo i)).toNat = 0x800 + 8 * i.toNat
        ∧ (regOffset (.crctabHi i)).toNat = 0x804 + 8 * i.toNat)
    ∧ (∀ r : Reg, r ≠ .reserved → regAt (regOffset r) = r ∧ (regOffset r).toNat % 4 = 0)
    ∧ ∀ o : BitVec 12, o.toNat % 4 = 0 →
      (regAt o = .reserved ↔ (0x040 ≤ o.toNat ∧ o.toNat ≤ 0x07C) ∨ (0x100 ≤ o.toNat ∧ o.toNat ≤ 0x7FC))
        ∧ (regAt o ≠ .reserved → regOffset (regAt o) = o)

/-- R60: a byte address reaches the block exactly when it lies in the 4096 bytes from CHK_BASE, at the offset from it; CHK_BASE
is 4096-byte aligned. -/
def Obligations.WindowLiesAtChkBase : Prop :=
  ∀ (p : Config.Placement) (addr : Nat),
    p.chkBase % 4096 = 0
      ∧ (∀ o : BitVec 12, windowOffset p addr = some o ↔ addr = p.chkBase + o.toNat)
      ∧ (windowOffset p addr = none ↔ addr < p.chkBase ∨ p.chkBase + 4096 ≤ addr)

/-- R22, R25, R63, R64: ID reads its constant, and CMD and the reserved offsets read 0, in every state. -/
def Obligations.ConstantRegistersRead : Prop :=
  ∀ s : State, readReg s .id = 0x43484B01 ∧ readReg s .cmd = 0 ∧ readReg s .reserved = 0

/-- R23, R24, R181, R182: the fields of STATUS, and its reserved bits. -/
def Obligations.StatusHoldsItsFields : Prop :=
  ∀ s : State,
    (readReg s .status).extractLsb' 0 2
        = (match s.engine with | .uninitialized => 0 | .tableBuilt => 1 | .ready => 2)
      ∧ (readReg s .status).getLsbD 2 = s.dvalid
      ∧ (readReg s .status).getLsbD 3 = s.err
      ∧ (readReg s .status).getLsbD 4 = s.errOvf
      ∧ (readReg s .status).extractLsb' 5 3 = 0
      ∧ (readReg s .status).extractLsb' 8 4
          = (match s.errCode with
            | .none => 0 | .illegalCmd => 1 | .badCrcWidth => 2 | .badFnvWidth => 3 | .paramRange => 4 | .badState => 5)
      ∧ (readReg s .status).extractLsb' 12 4
          = (match s.errArg with
            | .none => 0 | .poly => 1 | .init => 2 | .xorout => 3 | .crcWidth => 4 | .fnvWsel => 5)
      ∧ (readReg s .status).extractLsb' 16 16 = 0

/-- R26, R31 to R36: ERRINFO, DIGEST_LEN, DATA, and the halves of MSGLEN, POLY, INIT and XOROUT show the fields they name. -/
def Obligations.ValueRegistersShowTheirFields : Prop :=
  ∀ s : State,
    readReg s .errInfo = s.errInfo
      ∧ (readReg s .digestLen).toNat = s.dlen.toNat
      ∧ readReg s .msglenHi ++ readReg s .msglenLo = s.msglen
      ∧ readReg s .data = s.data
      ∧ readReg s .polyHi ++ readReg s .polyLo = s.poly
      ∧ readReg s .initHi ++ readReg s .initLo = s.init
      ∧ readReg s .xoroutHi ++ readReg s .xoroutLo = s.xorout

/-- R27, R30, R65: the fields of CFG, and of ACFG, which has the same layout, and their reserved bits. -/
def Obligations.ConfigurationRegistersHoldTheirFields : Prop :=
  ∀ (s : State) (r : Reg) (c : Cfg), (r, c) ∈ [(Reg.cfg, s.cfg), (Reg.acfg, s.acfg)] →
    (readReg s r).getLsbD 0 = decide (c.alg = .fnv)
      ∧ (readReg s r).getLsbD 1 = c.refin
      ∧ (readReg s r).getLsbD 2 = c.refout
      ∧ (readReg s r).getLsbD 3 = decide (c.order = .littleEndian)
      ∧ (readReg s r).extractLsb' 4 3 = c.fnvWsel
      ∧ (readReg s r).getLsbD 7 = false
      ∧ (readReg s r).extractLsb' 8 7 = c.crcWidth
      ∧ (readReg s r).extractLsb' 15 17 = 0

/-- R37, R66: digest byte k is the lane k mod 4 of the word k div 4 of the DIGEST window. -/
def Obligations.DigestWindowPacksTheBytes : Prop :=
  ∀ (s : State) (k : Nat) (h : k < 128),
    (readReg s (.digest ⟨k / 4, by omega⟩)).extractLsb' (8 * (k % 4)) 8 = s.dbuf.getD k 0

/-- R38: the CRCTAB window shows the two halves of each entry while a CRC configuration is active, and 0 otherwise. -/
def Obligations.TableWindowShowsTheTable : Prop :=
  ∀ (s : State) (i : Byte),
    (CrcActive s →
      readReg s (.crctabHi i) ++ readReg s (.crctabLo i) = (s.table.getD i.toNat 0 : BitVec 64))
      ∧ (¬ CrcActive s → readReg s (.crctabHi i) = 0 ∧ readReg s (.crctabLo i) = 0)

/-- R201: what every register reads after reset. -/
def Obligations.ResetValuesAsTheHostReadsThem : Prop :=
  ∀ r : Reg, readReg State.reset r = if r = .id then 0x43484B01 else 0

/-! ## The control commands -/

/-- R140: the word 0 is NOP and no other word with its OPCODE is legal; NOP completes and changes nothing, in every state. -/
def Obligations.NopChangesNothing : Prop :=
  decode 0x00000000 = .ok .nop
    ∧ (∀ w : Word, w.extractLsb' 24 8 = 0x00 → w ≠ 0 → ∃ e : Reject, decode w = .error e)
    ∧ ∀ s : State, exec .nop s = .next s

/-- R141, R186: the check of CONFIGURE answers nothing exactly when the staging registers pass, and otherwise the one first
failure in R141's order; CONFIGURE completes, with no error captured and the engine configured when they pass, and with that
one failure captured and the engine unconfigured when they do not. -/
def Obligations.ConfigureReportsExactlyOneOutcome : Prop :=
  ∀ s : State,
    (configureCheck s = none ↔ ConfigPasses s)
      ∧ (∀ (code : ErrorCode) (arg : ErrorArg), configureCheck s = some (code, arg) ↔ FirstFailure s code arg)
      ∧ ∃ t : State, exec .configure s = .next t
        ∧ ((ConfigPasses s ∧ (∀ (code : ErrorCode) (arg : ErrorArg), ¬ FirstFailure s code arg) ∧ SameError s t
              ∧ t.engine = .tableBuilt)
          ∨ ¬ ConfigPasses s ∧ ∃ (code : ErrorCode) (arg : ErrorArg), FirstFailure s code arg
              ∧ (∀ (code' : ErrorCode) (arg' : ErrorArg), FirstFailure s code' arg' → code' = code ∧ arg' = arg)
              ∧ Captured code arg 0x01000000 s t ∧ t.engine = .uninitialized)

/-- R142: a CONFIGURE whose check passes completes, latches the staging registers, builds the table for CRC and empties it for
FNV, discards the open message, and leaves the error state and the staging registers. -/
def Obligations.ConfigureLatchesAPassingConfiguration : Prop :=
  decode 0x01000000 = .ok .configure
    ∧ ∀ s : State, ConfigPasses s →
      ∃ t : State, exec .configure s = .next t ∧ t.engine = .tableBuilt ∧ t.acfg = s.cfg
        ∧ readReg t .acfg = readReg s .cfg
        ∧ t.aW.toNat = (match s.cfg.alg with
            | .crc => s.cfg.crcWidth.toNat
            | .fnv => [32, 64, 128, 256, 512, 1024].getD s.cfg.fnvWsel.toNat 0)
        ∧ t.aPoly = s.polyHi ++ s.polyLo ∧ t.aInit = s.initHi ++ s.initLo ∧ t.aXorout = s.xoroutHi ++ s.xoroutLo
        ∧ (s.cfg.alg = .crc → t.tvalid = true ∧ t.table.length = 256
            ∧ ∀ b : Byte, t.table.getD b.toNat 0 = crcTableEntry t.aW.toNat t.aPoly b)
        ∧ (s.cfg.alg = .fnv → t.tvalid = false ∧ t.table = emptyTable)
        ∧ WorkingZero t ∧ DigestEmpty t ∧ SameStaging s t ∧ SameError s t ∧ SameBus s t

/-- R143: a CONFIGURE whose check fails captures the error, discards the active configuration, the table, the message and the
digest, and leaves the staging registers. -/
def Obligations.FailedConfigureDiscardsTheConfiguration : Prop :=
  ∀ (s : State) (code : ErrorCode) (arg : ErrorArg), FirstFailure s code arg →
    ∃ t : State, exec .configure s = .next t ∧ Captured code arg 0x01000000 s t ∧ t.engine = .uninitialized
      ∧ NoConfig t ∧ WorkingZero t ∧ DigestEmpty t ∧ SameStaging s t ∧ SameBus s t

/-- R144: START on a configured engine completes, loads the working register of the selected datapath, and opens an empty
message; on an unconfigured engine it records BAD_STATE and changes nothing else. -/
def Obligations.StartOpensAnEmptyMessage : Prop :=
  decode 0x02000000 = .ok .start
    ∧ (∀ s : State, s.engine ≠ .uninitialized →
      ∃ t : State, exec .start s = .next t ∧ t.engine = .ready ∧ t.msglen = 0 ∧ DigestEmpty t
        ∧ (s.acfg.alg = .crc → t.crcR = s.aInit ∧ t.fnvH = s.fnvH)
        ∧ (s.acfg.alg = .fnv → t.fnvH.toNat = fnvBasis s.aW.toNat ∧ t.crcR = s.crcR)
        ∧ SameStaging s t ∧ SameActive s t ∧ SameError s t ∧ SameBus s t)
    ∧ ∀ s : State, s.engine = .uninitialized →
      ∃ t : State, exec .start s = .next t ∧ SameButError s t ∧ Captured .badState .none 0x02000000 s t

/-- R145: CLEAR_ERR completes, sets the error state to 0 and changes nothing else. -/
def Obligations.ClearErrClearsOnlyTheErrorState : Prop :=
  decode 0x06000000 = .ok .clearErr
    ∧ ∀ s : State,
      ∃ t : State, exec .clearErr s = .next t ∧ SameButError s t ∧ t.err = false ∧ t.errOvf = false
        ∧ t.errCode = .none ∧ t.errArg = .none ∧ t.errInfo = 0

/-! ## The data commands -/

/-- R161, R160: FEED_IMM with a message open completes: the byte updates the working register of the selected datapath, MSGLEN
counts it, and the digest is invalidated.  With no message open it records BAD_STATE and changes nothing else. -/
def Obligations.FeedImmAbsorbsItsByte : Prop :=
  (∀ b : Byte, decode (0x03000000 + b.setWidth 32) = .ok (.feedImm b))
    ∧ (∀ w : Word, w.extractLsb' 24 8 = 0x03 → w.extractLsb' 8 16 ≠ 0 → ∃ e : Reject, decode w = .error e)
    ∧ (∀ (s : State) (b : Byte), s.engine = .ready →
      ∃ t : State, exec (.feedImm b) s = .next t ∧ t.engine = .ready ∧ t.msglen = s.msglen + 1 ∧ DigestEmpty t
        ∧ (s.acfg.alg = .crc → t.crcR = crcStep s.aW.toNat s.acfg.refin s.table s.crcR b ∧ t.fnvH = s.fnvH)
        ∧ (s.acfg.alg = .fnv → t.fnvH = fnvStep s.aW.toNat s.fnvH b ∧ t.crcR = s.crcR)
        ∧ SameStaging s t ∧ SameActive s t ∧ SameError s t ∧ SameBus s t)
    ∧ ∀ (s : State) (b : Byte), s.engine ≠ .ready →
      ∃ t : State, exec (.feedImm b) s = .next t ∧ SameButError s t
        ∧ Captured .badState .none (0x03000000 + b.setWidth 32) s t

/-- R162: FEED_DATA with a message open completes and absorbs the first n bytes of DATA, `DATA[7:0]` first, in one step; DATA
itself is unchanged.  With no message open it records BAD_STATE and changes nothing else. -/
def Obligations.FeedDataAbsorbsTheFirstBytesOfData : Prop :=
  (∀ n : Nat, 1 ≤ n → n ≤ 4 → decode (0x04000000 + BitVec.ofNat 32 (n - 1)) = .ok (.feedData n))
    ∧ (∀ w : Word, w.extractLsb' 24 8 = 0x04 → w.extractLsb' 2 22 ≠ 0 → ∃ e : Reject, decode w = .error e)
    ∧ (∀ (s : State) (n : Nat), s.engine = .ready → 1 ≤ n → n ≤ 4 →
      ∃ t : State, exec (.feedData n) s = .next t ∧ t.engine = .ready ∧ t.msglen = s.msglen + BitVec.ofNat 64 n
        ∧ DigestEmpty t
        ∧ (s.acfg.alg = .crc →
            t.crcR = ([s.data.extractLsb' 0 8, s.data.extractLsb' 8 8, s.data.extractLsb' 16 8,
                s.data.extractLsb' 24 8].take n).foldl (crcStep s.aW.toNat s.acfg.refin s.table) s.crcR
              ∧ t.fnvH = s.fnvH)
        ∧ (s.acfg.alg = .fnv →
            t.fnvH = ([s.data.extractLsb' 0 8, s.data.extractLsb' 8 8, s.data.extractLsb' 16 8,
                s.data.extractLsb' 24 8].take n).foldl (fnvStep s.aW.toNat) s.fnvH
              ∧ t.crcR = s.crcR)
        ∧ SameStaging s t ∧ SameActive s t ∧ SameError s t ∧ SameBus s t)
    ∧ ∀ (s : State) (n : Nat), s.engine ≠ .ready → 1 ≤ n → n ≤ 4 →
      ∃ t : State, exec (.feedData n) s = .next t ∧ SameButError s t
        ∧ Captured .badState .none (0x04000000 + BitVec.ofNat 32 (n - 1)) s t

/-- R162: FEED_DATA of n bytes is n FEED_IMMs of those bytes. -/
def Obligations.FeedDataIsAsManyFeedImms : Prop :=
  ∀ (s : State) (n : Nat), s.engine = .ready → 1 ≤ n → n ≤ 4 →
    exec (.feedData n) s
      = execAll (([s.data.extractLsb' 0 8, s.data.extractLsb' 8 8, s.data.extractLsb' 16 8,
          s.data.extractLsb' 24 8].take n).map .feedImm) s

/-- R163: FINAL with a message open completes and stores the digest, its first byte first, followed by zero bytes; the working
registers, MSGLEN and STATE are unchanged.  With no message open it records BAD_STATE and changes nothing else. -/
def Obligations.FinalStoresTheDigest : Prop :=
  decode 0x05000000 = .ok .final
    ∧ (∀ s : State, s.engine = .ready →
      ∃ t : State, exec .final s = .next t ∧ t.dvalid = true ∧ t.dlen = BitVec.ofNat 8 (s.aW.toNat / 8)
        ∧ t.dbuf.length = 128
        ∧ (∀ k : Nat, k < 128 → s.aW.toNat / 8 ≤ k → t.dbuf.getD k 0 = 0)
        ∧ (∀ k : Nat, k < 128 → k < s.aW.toNat / 8 → s.acfg.alg = .crc → s.acfg.order = .bigEndian →
            t.dbuf.getD k 0
              = ((if s.acfg.refout then reflect s.crcR s.aW.toNat else s.crcR) ^^^ s.aXorout).extractLsb'
                  (s.aW.toNat - 8 - 8 * k) 8)
        ∧ (∀ k : Nat, k < 128 → k < s.aW.toNat / 8 → s.acfg.alg = .crc → s.acfg.order = .littleEndian →
            t.dbuf.getD k 0
              = ((if s.acfg.refout then reflect s.crcR s.aW.toNat else s.crcR) ^^^ s.aXorout).extractLsb' (8 * k) 8)
        ∧ (∀ k : Nat, k < 128 → k < s.aW.toNat / 8 → s.acfg.alg = .fnv →
            t.dbuf.getD k 0 = s.fnvH.extractLsb' (s.aW.toNat - 8 - 8 * k) 8)
        ∧ t.engine = .ready ∧ SameWorking s t ∧ SameStaging s t ∧ SameActive s t ∧ SameError s t ∧ SameBus s t)
    ∧ ∀ s : State, s.engine ≠ .ready →
      ∃ t : State, exec .final s = .next t ∧ SameButError s t ∧ Captured .badState .none 0x05000000 s t

/-- R164: after a FINAL, events with no Absorb, START, CONFIGURE or reset leave the digest buffer, and a FINAL after them
stores the same digest again.  The bus fields are the model's own (log entry 1). -/
def Obligations.DigestIsStableUntilTheMessageChanges : Prop :=
  ∀ (s t : State) (events rest : List BusEvent), s.engine = .ready → exec .final s = .next t →
    t.pending = events ++ rest → (∀ e ∈ events, keepsDigest e = true) →
      ∃ u v : State, run events.length t = .next u ∧ u.pending = rest ∧ SameDigest t u ∧ exec .final u = .next v
        ∧ SameDigest t v

/-- R163: FINAL is non-destructive: a feed after it leaves exactly the state the feed alone leaves. -/
def Obligations.FinalLeavesTheMessageOpen : Prop :=
  ∀ (s t : State), s.engine = .ready → exec .final s = .next t →
    (∀ b : Byte, exec (.feedImm b) t = exec (.feedImm b) s)
      ∧ ∀ n : Nat, 1 ≤ n → n ≤ 4 → exec (.feedData n) t = exec (.feedData n) s

/-- R88: the expansion of `feed` feeds exactly the bytes of its sequence, in order. -/
def Obligations.FeedExpansionFeedsItsBytes : Prop :=
  ∀ (d : Word) (m : List Byte), Feeds d (feedEvents m) m

/-- R88: `cfg.crc` and `cfg.fnv` write to CFG a word that stores exactly the fields they name, the width of `cfg.fnv` by its code
of R29, and `wr64` leaves its parameter in the register pair.  The bus fields are the model's own (log entry 1). -/
def Obligations.PseudoInstructionsStoreWhatTheyName : Prop :=
  (∀ (w : Nat) (refin refout : Bool) (order : ByteOrder), w < 128 →
      ∃ v : Word, lineEvents (.cfgCrc w refin refout order) = [memWrite 0x010 v]
        ∧ unpackCfg v
        = { alg := .crc, refin := refin, refout := refout, order := order, fnvWsel := 0, crcWidth := BitVec.ofNat 7 w })
    ∧ (∀ (w : Nat) (sel : BitVec 3), (w, sel) ∈ [(32, 0), (64, 1), (128, 2), (256, 3), (512, 4), (1024, 5)] →
      ∃ v : Word, lineEvents (.cfgFnv w) = [memWrite 0x010 v]
        ∧ unpackCfg v
          = { alg := .fnv, refin := false, refout := false, order := .bigEndian, fnvWsel := sel, crcWidth := 0 })
    ∧ ∀ (s : State) (rest : List BusEvent) (p : Param) (v : Word64), s.pending = lineEvents (.wr64 p v) ++ rest →
      ∃ t : State, run 2 s = .next t ∧ t.pending = rest
        ∧ (match p with | .poly => t.poly | .init => t.init | .xorout => t.xorout) = v
        ∧ t.data = s.data ∧ t.cfg = s.cfg ∧ t.engine = s.engine ∧ SameActive s t ∧ SameWorking s t ∧ SameDigest s t
        ∧ SameError s t

/-- R165, R112, R128: on a validly configured engine, START, any feeding of M and FINAL leave the digest of M in the buffer,
with its length and DIGEST_VALID, however M is split between FEED_IMM and FEED_DATA.  The bus fields are the model's own (log entry 1). -/
def Obligations.StartFeedFinalComputesTheDigest : Prop :=
  ∀ (s : State) (f rest : List BusEvent) (m : List Byte),
    (CrcActive s ∧ CrcConfigured s ∨ FnvActive s ∧ FnvConfigured s) → Feeds s.data f m →
      s.pending = commandEvent .start :: f ++ commandEvent .final :: rest →
        ∃ t : State, run (f.length + 2) s = .next t ∧ t.pending = rest ∧ t.engine = .ready ∧ t.dvalid = true
          ∧ t.dlen.toNat = s.aW.toNat / 8 ∧ (activeDigest s m).length = s.aW.toNat / 8
          ∧ t.dbuf = activeDigest s m ++ List.replicate (128 - s.aW.toNat / 8) 0
          ∧ t.msglen = BitVec.ofNat 64 m.length ∧ SameActive s t ∧ SameError s t

/-- R113, R129: START followed by FINAL stores the digest of the empty message. -/
def Obligations.EmptyMessageHasItsFixedDigest : Prop :=
  ∀ (s : State),
    (CrcActive s → CrcConfigured s →
      ∃ t u : State, exec .start s = .next t ∧ exec .final t = .next u
        ∧ u.dbuf.take (s.aW.toNat / 8)
          = ser ((if s.acfg.refout then reflect s.aInit s.aW.toNat else s.aInit) ^^^ s.aXorout) s.aW.toNat s.acfg.order)
      ∧ (FnvActive s → FnvConfigured s →
        ∃ t u : State, exec .start s = .next t ∧ exec .final t = .next u
          ∧ u.dbuf.take (s.aW.toNat / 8)
            = ser (BitVec.ofNat 1024 (fnvBasis s.aW.toNat)) s.aW.toNat .bigEndian)

/-- R205, its three pairs: a DATA write followed at once by FEED_DATA feeds the new DATA, a FINAL followed at once by a DIGEST
read returns the new digest, and a CONFIGURE followed at once by a CRCTAB read returns the new table.  The bus fields are the
model's own (log entry 1). -/
def Obligations.FeedDigestAndTablePairsHaveNoHazard : Prop :=
  (∀ (s : State) (rest : List BusEvent) (v : Word) (n : Nat), s.engine = .ready → 1 ≤ n → n ≤ 4 →
      s.pending = memWrite 0x00C v :: memWrite 0x008 (0x04000000 + BitVec.ofNat 32 (n - 1)) :: rest →
        ∃ t : State, run 2 s = .next t ∧ t.pending = rest ∧ t.data = v
          ∧ (s.acfg.alg = .crc →
            t.crcR = crcReg s.aW.toNat s.acfg.refin s.table s.crcR
              ([v.extractLsb' 0 8, v.extractLsb' 8 8, v.extractLsb' 16 8, v.extractLsb' 24 8].take n))
          ∧ (s.acfg.alg = .fnv →
            t.fnvH = ([v.extractLsb' 0 8, v.extractLsb' 8 8, v.extractLsb' 16 8, v.extractLsb' 24 8].take n).foldl
              (fnvStep s.aW.toNat) s.fnvH))
    ∧ (∀ (s : State) (rest : List BusEvent) (j : Fin 32), s.engine = .ready →
      s.pending = memWrite 0x008 0x05000000 :: memRead (BitVec.ofNat 12 (0x080 + 4 * j.val)) :: rest →
        ∃ (t : State) (v : Word), run 2 s = .next t ∧ t.pending = rest
          ∧ t.responses = s.responses ++ [.writeDone, .readDone v]
          ∧ ∀ k : Nat, k < 4 → v.extractLsb' (8 * k) 8 = (digestNow s).getD (4 * j.val + k) 0)
    ∧ ∀ (s : State) (rest : List BusEvent) (i : Byte), ConfigPasses s → s.cfg.alg = .crc →
      s.pending = memWrite 0x008 0x01000000 :: memRead (BitVec.ofNat 12 (0x800 + 8 * i.toNat)) ::
          memRead (BitVec.ofNat 12 (0x804 + 8 * i.toNat)) :: rest →
        ∃ (t : State) (lo hi : Word), run 3 s = .next t ∧ t.pending = rest
          ∧ t.responses = s.responses ++ [.writeDone, .readDone lo, .readDone hi]
          ∧ hi ++ lo = crcTableEntry s.cfg.crcWidth.toNat (s.polyHi ++ s.polyLo) i

/-- R68, R71: every step that answers delivers exactly the next event of the bus, adds one answer for an access and none for the
platform's reset, and keeps the earlier answers; what follows any number of steps is what follows from the state they leave.  The
bus fields are the model's own (log entry 1). -/
def Obligations.EachStepDeliversTheNextEvent : Prop :=
  (∀ (s t : State) (e : BusEvent) (rest : List BusEvent), s.pending = e :: rest → step s = .next t →
      t.pending = rest
        ∧ (e = .reset → t.responses = s.responses)
        ∧ (e ≠ .reset → ∃ r : Response, t.responses = s.responses ++ [r]))
    ∧ ∀ (m n : Nat) (s : State),
      run (m + n) s
        = match run m s with
          | .next t => run n t
          | .fault r => .fault r
          | .refused r => .refused r

/-! ## The CRC datapath -/

/-- R9: the bits of a reflected value. -/
def Obligations.ReflectReversesTheLowBits : Prop :=
  ∀ (m n : Nat) (v : BitVec m) (j : Nat), n ≤ m →
    (reflect v n).getLsbD j = (decide (j < n) && v.getLsbD (n - 1 - j))

/-- R114: reflection is an involution on N-bit values. -/
def Obligations.ReflectTwiceIsTheIdentity : Prop :=
  ∀ (m n : Nat) (v : BitVec m), 1 ≤ n → n ≤ m → v.toNat < 2 ^ n → reflect (reflect v n) n = v

/-- R104: T[0] is 0, every entry is below 2^W, and the table is linear over GF(2). -/
def Obligations.TableIsLinear : Prop :=
  ∀ (w : Nat) (p : Word64), legalCrcWidth w = true → p.toNat < 2 ^ w →
    crcTableEntry w p 0 = 0 ∧ (∀ b : Byte, (crcTableEntry w p b).toNat < 2 ^ w)
      ∧ ∀ a b : Byte, crcTableEntry w p (a ^^^ b) = crcTableEntry w p a ^^^ crcTableEntry w p b

/-- R104: the entry of b is the remainder of b(x) x^W modulo x^W + P(x) over GF(2).  The polynomial of a value is the sum of
the x^i of its set bits. -/
def Obligations.TableEntryIsThePolynomialRemainder : Prop :=
  ∀ (w : Nat) (p : Word64) (b : Byte), legalCrcWidth w = true → p.toNat < 2 ^ w →
    (∑ i ∈ Finset.range 64, if (crcTableEntry w p b).getLsbD i then (Polynomial.X ^ i : Polynomial (ZMod 2)) else 0)
      = ((∑ i ∈ Finset.range 8, if b.getLsbD i then (Polynomial.X ^ i : Polynomial (ZMod 2)) else 0) * Polynomial.X ^ w)
          %ₘ (Polynomial.X ^ w
            + ∑ i ∈ Finset.range 64, if p.getLsbD i then (Polynomial.X ^ i : Polynomial (ZMod 2)) else 0)

/-- R109: one byte's update through the table is eight single-bit division steps, from bit 7 of the input byte down to bit
0. -/
def Obligations.TableStepIsEightBitSteps : Prop :=
  ∀ (w : Nat) (refin : Bool) (p r : Word64) (b : Byte), legalCrcWidth w = true → p.toNat < 2 ^ w → r.toNat < 2 ^ w →
    crcStep w refin (crcTable w p) r b
      = [7, 6, 5, 4, 3, 2, 1, 0].foldl
          (fun (x : Word64) (j : Nat) =>
            let y := if (if refin then reflect b 8 else b).getLsbD j then x ^^^ BitVec.twoPow 64 (w - 1) else x
            if y.getLsbD (w - 1) then ((y <<< 1) &&& mask w) ^^^ p else (y <<< 1) &&& mask w)
          r

/-- R107, R118: at width 8 the update is a table lookup; with polynomial 0 every entry is 0 and the update only shifts. -/
def Obligations.NarrowAndDegenerateUpdates : Prop :=
  (∀ (refin : Bool) (t : List Word64) (r : Word64) (b : Byte),
      crcStep 8 refin t r b = tableAt t (r.setWidth 8 ^^^ (if refin then reflect b 8 else b)))
    ∧ ∀ (w : Nat) (refin : Bool) (r : Word64) (b : Byte), legalCrcWidth w = true →
      (∀ a : Byte, crcTableEntry w 0 a = 0)
        ∧ crcStep w refin (crcTable w 0) r b = if w = 8 then (0 : Word64) else (r <<< 8) &&& mask w

/-- R115, R130: the register after a split message is the fold over the second part from the register after the first. -/
def Obligations.MessagesMayBeSplitAnywhere : Prop :=
  ∀ (s : State) (m₁ m₂ : List Byte), s.engine = .ready →
    ∃ t u : State, execAll (m₁.map .feedImm) s = .next t ∧ execAll (m₂.map .feedImm) t = .next u
      ∧ execAll ((m₁ ++ m₂).map .feedImm) s = .next u ∧ t.engine = .ready
      ∧ (s.acfg.alg = .crc → t.crcR = crcReg s.aW.toNat s.acfg.refin s.table s.crcR m₁
          ∧ u.crcR = crcReg s.aW.toNat s.acfg.refin s.table t.crcR m₂)
      ∧ (s.acfg.alg = .fnv → t.fnvH = m₁.foldl (fnvStep s.aW.toNat) s.fnvH
          ∧ u.fnvH = m₂.foldl (fnvStep s.aW.toNat) t.fnvH)
      ∧ u.msglen = s.msglen + BitVec.ofNat 64 m₁.length + BitVec.ofNat 64 m₂.length

/-- R116, R168: an appended byte may leave the CRC digest unchanged, and the digest may depend on the order of the bytes. -/
def Obligations.AppendMayKeepAndOrderMayMatter : Prop :=
  crcDigest 8 0x07 0 0 false false .bigEndian ([] ++ [0x00]) = crcDigest 8 0x07 0 0 false false .bigEndian []
    ∧ crcDigest 16 0x8005 0 0 true true .bigEndian [0x61, 0x62]
      ≠ crcDigest 16 0x8005 0 0 true true .bigEndian [0x62, 0x61]

/-! ## The FNV datapath -/

/-- R123, R125: one byte's update is the exact product of the XORed hash and the prime, modulo 2^W. -/
def Obligations.FnvStepIsTheExactProduct : Prop :=
  ∀ (w : Nat) (h : Word1024) (b : Byte), w ∈ [32, 64, 128, 256, 512, 1024] →
    (fnvStep w h b).toNat = ((h.toNat ^^^ b.toNat) * fnvPrime w) % 2 ^ w

/-- R126: the shift-and-add form of the multiplication, at every width. -/
def Obligations.FnvProductIsShiftsAndAdds : Prop :=
  ∀ (h w k c : Nat),
    (w, k, c) ∈ [(32, 24, 0x93), (64, 40, 0xB3), (128, 88, 0x3B), (256, 168, 0x63), (512, 344, 0x57), (1024, 680, 0x8D)] →
      (h * fnvPrime w) % 2 ^ w = ((h <<< k) + (h <<< 8) + h * c) % 2 ^ w

/-- R131: for a fixed byte the update is one-to-one on W-bit hashes and every W-bit hash is reached; for a fixed hash distinct
bytes give distinct results. -/
def Obligations.FnvStepIsAPermutation : Prop :=
  ∀ (w : Nat) (b : Byte), w ∈ [32, 64, 128, 256, 512, 1024] →
    (∀ h h' : Word1024, h.toNat < 2 ^ w → h'.toNat < 2 ^ w → fnvStep w h b = fnvStep w h' b → h = h')
      ∧ (∀ g : Word1024, g.toNat < 2 ^ w → ∃ h : Word1024, h.toNat < 2 ^ w ∧ fnvStep w h b = g)
      ∧ ∀ (h : Word1024) (b' : Byte), h.toNat < 2 ^ w → fnvStep w h b = fnvStep w h b' → b = b'

/-- R122: each offset basis is the FNV-0 hash, basis 0, multiply then XOR, of the 32 ASCII bytes `chongo <Landon Curt Noll> /\../\`
at its width.  The constants are general knowledge, bound to R122's table (log entry 3). -/
def Obligations.FnvBasesAreTheirDerivation : Prop :=
  ∀ w : Nat, w ∈ [32, 64, 128, 256, 512, 1024] →
    fnvBasis w
      = [0x63, 0x68, 0x6F, 0x6E, 0x67, 0x6F, 0x20, 0x3C, 0x4C, 0x61, 0x6E, 0x64, 0x6F, 0x6E, 0x20, 0x43,
          0x75, 0x72, 0x74, 0x20, 0x4E, 0x6F, 0x6C, 0x6C, 0x3E, 0x20, 0x2F, 0x5C, 0x2E, 0x2E, 0x2F, 0x5C].foldl
          (fun h b : Nat => (h * fnvPrime w) % 2 ^ w ^^^ b) 0

/-- R120: what FNV ignores does not reach it: two states whose FNV engines are alike stay alike under every command of a
message. -/
def Obligations.FnvIgnoresTheCrcParameters : Prop :=
  ∀ (s s' : State) (i : Instr), FnvAlike s s' →
    (i = .start ∨ (∃ b : Byte, i = .feedImm b) ∨ (∃ n : Nat, i = .feedData n) ∨ i = .final) →
      ∃ t t' : State, exec i s = .next t ∧ exec i s' = .next t' ∧ FnvAlike t t'

/-! ## The whole machine -/

/-- R47, R40 to R44: the invariant holds after reset. -/
def Obligations.ResetMeetsTheInvariant : Prop :=
  Inv State.reset

/-- R47, R40 to R44: from every state that meets the invariant, every step keeps it, whatever the host does on a bus error. -/
def Obligations.EveryStepKeepsTheInvariant : Prop :=
  ∀ (effect : BusErrorEffect) (s t : State), Inv s → stepOn effect s = .next t → Inv t

/-- R35, R30: in every state that meets the invariant DIGEST_LEN holds one of its values, 0 exactly while no digest is valid,
and ACFG reads 0 while the engine is unconfigured. -/
def Obligations.DigestLenAndAcfgKeepTheirRange : Prop :=
  ∀ s : State, Inv s →
    (readReg s .digestLen).toNat ∈ [0, 1, 2, 3, 4, 5, 6, 7, 8, 16, 32, 64, 128]
      ∧ (readReg s .digestLen = 0 ↔ (readReg s .status).getLsbD 2 = false)
      ∧ (s.engine = .uninitialized → readReg s .acfg = 0)

/-- R45, R181, R184: the writers of the flags, over all commands.  ERR_OVF is set only while ERR is 1. -/
def Obligations.FlagsHaveTheirWriters : Prop :=
  ∀ (i : Instr) (s t : State), exec i s = .next t →
    (t.engine ≠ s.engine → i = .configure ∨ i = .start ∨ i = .softReset)
      ∧ (s.dvalid = false → t.dvalid = true → i = .final)
      ∧ (s.dvalid = true → t.dvalid = false →
          i = .configure ∨ i = .start ∨ i = .softReset ∨ (∃ b : Byte, i = .feedImm b) ∨ ∃ n : Nat, i = .feedData n)
      ∧ (s.err = false → t.err = true →
          i = .configure ∨ i = .start ∨ (∃ b : Byte, i = .feedImm b) ∨ (∃ n : Nat, i = .feedData n) ∨ i = .final)
      ∧ (s.errOvf = false → t.errOvf = true →
          s.err = true
            ∧ (i = .configure ∨ i = .start ∨ (∃ b : Byte, i = .feedImm b)
              ∨ (∃ n : Nat, i = .feedData n) ∨ i = .final))
      ∧ (s.err = true → t.err = false → i = .clearErr ∨ i = .softReset)
      ∧ (s.errOvf = true → t.errOvf = false → i = .clearErr ∨ i = .softReset)

/-- R188: errors do not block: every command answers a next state whatever the error state, and everything but the error state
comes out the same. -/
def Obligations.ErrorsDoNotBlockCommands : Prop :=
  ∀ (i : Instr) (s s' : State), SameButError s s' →
    ∃ t t' : State, exec i s = .next t ∧ exec i s' = .next t' ∧ SameButError t t'

/-- R185, in part: a command other than CONFIGURE, CLEAR_ERR and SOFT_RESET that changes the error state changes nothing else.
(That a failed START, FEED_IMM, FEED_DATA or FINAL changes nothing else, also while ERR and ERR_OVF are 1 already, is said by the
statement of that command.) -/
def Obligations.ErrorStateChangesComeAlone : Prop :=
  ∀ (i : Instr) (s t : State), i ≠ .configure → i ≠ .clearErr → i ≠ .softReset → exec i s = .next t →
    SameError s t ∨ SameButError s t

/-- R39, R204: a write to a staging register does not reach a message in progress: it commutes with every command but
CONFIGURE and SOFT_RESET. -/
def Obligations.StagingWritesDoNotReachTheMessage : Prop :=
  ∀ (i : Instr) (s : State) (r : Reg) (v : Word),
    r ∈ [Reg.cfg, .polyLo, .polyHi, .initLo, .initHi, .xoroutLo, .xoroutHi] → i ≠ .configure → i ≠ .softReset →
      ∃ t : State, exec i s = .next t ∧ exec i (writeReg s r v) = .next (writeReg t r v)

/-- R69, R72, R16: a second master that only reads is invisible to the first: for every order in which the bus interleaves them,
the block ends as if the first had run alone, and the first gets the answers it gets alone.  Several masters as an order of
`pending` are log entry 9. -/
def Obligations.AReadingMasterIsInvisible : Prop :=
  ∀ (s t : State) (z : List (Master × BusEvent)),
    (∀ e ∈ issuedBy .second z, isRead e = true ∧ accepted e = true) →
      run (issuedBy .first z).length { s with pending := issuedBy .first z } = .next t →
        ∃ (u : State) (alone both : List Response), run z.length { s with pending := busOrder z } = .next u
          ∧ SameBlock t u ∧ t.responses = s.responses ++ alone ∧ u.responses = s.responses ++ both
          ∧ answersTo .first z both = alone
end

