-- ==== Sys2Proof/Laws/Decode.lean ====
section
/-! SUPPORT. The fields of a command word, and what each format's decoder answers. -/

namespace Sys2Proof

/-- The bits of a command word: OPERAND below, OPCODE above (R80). -/
theorem getLsbD_commandWord (op : BitVec 8) (x : BitVec 24) (i : Nat) :
    (commandWord op x).getLsbD i = if i < 24 then x.getLsbD i else op.getLsbD (i - 24) :=
  BitVec.getLsbD_append

@[simp] theorem opcodeField_commandWord (op : BitVec 8) (x : BitVec 24) : opcodeField (commandWord op x) = op :=
  BitVec.eq_of_getLsbD_eq fun i hi => by simp [opcodeField, getLsbD_commandWord, hi]

@[simp] theorem operandField_commandWord (op : BitVec 8) (x : BitVec 24) : operandField (commandWord op x) = x :=
  BitVec.eq_of_getLsbD_eq fun i hi => by simp [operandField, getLsbD_commandWord, hi]

/-- A word is its OPCODE and its OPERAND. -/
theorem commandWord_fields (w : Word) : commandWord (opcodeField w) (operandField w) = w :=
  BitVec.eq_of_getLsbD_eq fun i hi => by
    rw [getLsbD_commandWord]
    split
    · simp [operandField, *]
    · simp [opcodeField, show i - 24 < 8 by omega, show 24 + (i - 24) = i by omega]

theorem decodeZ_eq_ok_iff {w : Word} {i j : Instr} : decodeZ w i = .ok j ↔ operandField w = 0 ∧ i = j := by
  unfold decodeZ; split <;> simp_all

theorem decodeB_eq_ok_iff {w : Word} {j : Instr} :
    decodeB w = .ok j ↔ w.extractLsb' 8 16 = 0 ∧ .feedImm (byteField w) = j := by
  unfold decodeB; split <;> simp_all

theorem decodeN_eq_ok_iff {w : Word} {j : Instr} :
    decodeN w = .ok j ↔ w.extractLsb' 2 22 = 0 ∧ .feedData ((nm1Field w).toNat + 1) = j := by
  unfold decodeN; split <;> simp_all

end Sys2Proof
end

