-- ==== Sys2Proof/Laws/State.lean ====
section
/-! SUPPORT. One lemma for each field and each shared operation: what the operation leaves in the field.  No later proof unfolds
a record update. -/

namespace Sys2Proof.Machine

/-! ### `clearError` (R145) -/

@[simp] theorem clearError_engine (s : State) : (clearError s).engine = s.engine := rfl
@[simp] theorem clearError_dvalid (s : State) : (clearError s).dvalid = s.dvalid := rfl
@[simp] theorem clearError_dlen (s : State) : (clearError s).dlen = s.dlen := rfl
@[simp] theorem clearError_dbuf (s : State) : (clearError s).dbuf = s.dbuf := rfl
@[simp] theorem clearError_err (s : State) : (clearError s).err = false := rfl
@[simp] theorem clearError_errOvf (s : State) : (clearError s).errOvf = false := rfl
@[simp] theorem clearError_errCode (s : State) : (clearError s).errCode = .none := rfl
@[simp] theorem clearError_errArg (s : State) : (clearError s).errArg = .none := rfl
@[simp] theorem clearError_errInfo (s : State) : (clearError s).errInfo = 0 := rfl
@[simp] theorem clearError_data (s : State) : (clearError s).data = s.data := rfl
@[simp] theorem clearError_cfg (s : State) : (clearError s).cfg = s.cfg := rfl
@[simp] theorem clearError_polyLo (s : State) : (clearError s).polyLo = s.polyLo := rfl
@[simp] theorem clearError_polyHi (s : State) : (clearError s).polyHi = s.polyHi := rfl
@[simp] theorem clearError_initLo (s : State) : (clearError s).initLo = s.initLo := rfl
@[simp] theorem clearError_initHi (s : State) : (clearError s).initHi = s.initHi := rfl
@[simp] theorem clearError_xoroutLo (s : State) : (clearError s).xoroutLo = s.xoroutLo := rfl
@[simp] theorem clearError_xoroutHi (s : State) : (clearError s).xoroutHi = s.xoroutHi := rfl
@[simp] theorem clearError_acfg (s : State) : (clearError s).acfg = s.acfg := rfl
@[simp] theorem clearError_aW (s : State) : (clearError s).aW = s.aW := rfl
@[simp] theorem clearError_aPoly (s : State) : (clearError s).aPoly = s.aPoly := rfl
@[simp] theorem clearError_aInit (s : State) : (clearError s).aInit = s.aInit := rfl
@[simp] theorem clearError_aXorout (s : State) : (clearError s).aXorout = s.aXorout := rfl
@[simp] theorem clearError_tvalid (s : State) : (clearError s).tvalid = s.tvalid := rfl
@[simp] theorem clearError_table (s : State) : (clearError s).table = s.table := rfl
@[simp] theorem clearError_crcR (s : State) : (clearError s).crcR = s.crcR := rfl
@[simp] theorem clearError_fnvH (s : State) : (clearError s).fnvH = s.fnvH := rfl
@[simp] theorem clearError_msglen (s : State) : (clearError s).msglen = s.msglen := rfl
@[simp] theorem clearError_pending (s : State) : (clearError s).pending = s.pending := rfl
@[simp] theorem clearError_responses (s : State) : (clearError s).responses = s.responses := rfl

/-! ### `invalidateDigest` (R166) -/

@[simp] theorem invalidateDigest_engine (s : State) : (invalidateDigest s).engine = s.engine := rfl
@[simp] theorem invalidateDigest_dvalid (s : State) : (invalidateDigest s).dvalid = false := rfl
@[simp] theorem invalidateDigest_dlen (s : State) : (invalidateDigest s).dlen = 0 := rfl
@[simp] theorem invalidateDigest_dbuf (s : State) : (invalidateDigest s).dbuf = emptyDbuf := rfl
@[simp] theorem invalidateDigest_err (s : State) : (invalidateDigest s).err = s.err := rfl
@[simp] theorem invalidateDigest_errOvf (s : State) : (invalidateDigest s).errOvf = s.errOvf := rfl
@[simp] theorem invalidateDigest_errCode (s : State) : (invalidateDigest s).errCode = s.errCode := rfl
@[simp] theorem invalidateDigest_errArg (s : State) : (invalidateDigest s).errArg = s.errArg := rfl
@[simp] theorem invalidateDigest_errInfo (s : State) : (invalidateDigest s).errInfo = s.errInfo := rfl
@[simp] theorem invalidateDigest_data (s : State) : (invalidateDigest s).data = s.data := rfl
@[simp] theorem invalidateDigest_cfg (s : State) : (invalidateDigest s).cfg = s.cfg := rfl
@[simp] theorem invalidateDigest_polyLo (s : State) : (invalidateDigest s).polyLo = s.polyLo := rfl
@[simp] theorem invalidateDigest_polyHi (s : State) : (invalidateDigest s).polyHi = s.polyHi := rfl
@[simp] theorem invalidateDigest_initLo (s : State) : (invalidateDigest s).initLo = s.initLo := rfl
@[simp] theorem invalidateDigest_initHi (s : State) : (invalidateDigest s).initHi = s.initHi := rfl
@[simp] theorem invalidateDigest_xoroutLo (s : State) : (invalidateDigest s).xoroutLo = s.xoroutLo := rfl
@[simp] theorem invalidateDigest_xoroutHi (s : State) : (invalidateDigest s).xoroutHi = s.xoroutHi := rfl
@[simp] theorem invalidateDigest_acfg (s : State) : (invalidateDigest s).acfg = s.acfg := rfl
@[simp] theorem invalidateDigest_aW (s : State) : (invalidateDigest s).aW = s.aW := rfl
@[simp] theorem invalidateDigest_aPoly (s : State) : (invalidateDigest s).aPoly = s.aPoly := rfl
@[simp] theorem invalidateDigest_aInit (s : State) : (invalidateDigest s).aInit = s.aInit := rfl
@[simp] theorem invalidateDigest_aXorout (s : State) : (invalidateDigest s).aXorout = s.aXorout := rfl
@[simp] theorem invalidateDigest_tvalid (s : State) : (invalidateDigest s).tvalid = s.tvalid := rfl
@[simp] theorem invalidateDigest_table (s : State) : (invalidateDigest s).table = s.table := rfl
@[simp] theorem invalidateDigest_crcR (s : State) : (invalidateDigest s).crcR = s.crcR := rfl
@[simp] theorem invalidateDigest_fnvH (s : State) : (invalidateDigest s).fnvH = s.fnvH := rfl
@[simp] theorem invalidateDigest_msglen (s : State) : (invalidateDigest s).msglen = s.msglen := rfl
@[simp] theorem invalidateDigest_pending (s : State) : (invalidateDigest s).pending = s.pending := rfl
@[simp] theorem invalidateDigest_responses (s : State) : (invalidateDigest s).responses = s.responses := rfl

/-! ### `clearWorking` (R142, R143) -/

@[simp] theorem clearWorking_engine (s : State) : (clearWorking s).engine = s.engine := rfl
@[simp] theorem clearWorking_dvalid (s : State) : (clearWorking s).dvalid = s.dvalid := rfl
@[simp] theorem clearWorking_dlen (s : State) : (clearWorking s).dlen = s.dlen := rfl
@[simp] theorem clearWorking_dbuf (s : State) : (clearWorking s).dbuf = s.dbuf := rfl
@[simp] theorem clearWorking_err (s : State) : (clearWorking s).err = s.err := rfl
@[simp] theorem clearWorking_errOvf (s : State) : (clearWorking s).errOvf = s.errOvf := rfl
@[simp] theorem clearWorking_errCode (s : State) : (clearWorking s).errCode = s.errCode := rfl
@[simp] theorem clearWorking_errArg (s : State) : (clearWorking s).errArg = s.errArg := rfl
@[simp] theorem clearWorking_errInfo (s : State) : (clearWorking s).errInfo = s.errInfo := rfl
@[simp] theorem clearWorking_data (s : State) : (clearWorking s).data = s.data := rfl
@[simp] theorem clearWorking_cfg (s : State) : (clearWorking s).cfg = s.cfg := rfl
@[simp] theorem clearWorking_polyLo (s : State) : (clearWorking s).polyLo = s.polyLo := rfl
@[simp] theorem clearWorking_polyHi (s : State) : (clearWorking s).polyHi = s.polyHi := rfl
@[simp] theorem clearWorking_initLo (s : State) : (clearWorking s).initLo = s.initLo := rfl
@[simp] theorem clearWorking_initHi (s : State) : (clearWorking s).initHi = s.initHi := rfl
@[simp] theorem clearWorking_xoroutLo (s : State) : (clearWorking s).xoroutLo = s.xoroutLo := rfl
@[simp] theorem clearWorking_xoroutHi (s : State) : (clearWorking s).xoroutHi = s.xoroutHi := rfl
@[simp] theorem clearWorking_acfg (s : State) : (clearWorking s).acfg = s.acfg := rfl
@[simp] theorem clearWorking_aW (s : State) : (clearWorking s).aW = s.aW := rfl
@[simp] theorem clearWorking_aPoly (s : State) : (clearWorking s).aPoly = s.aPoly := rfl
@[simp] theorem clearWorking_aInit (s : State) : (clearWorking s).aInit = s.aInit := rfl
@[simp] theorem clearWorking_aXorout (s : State) : (clearWorking s).aXorout = s.aXorout := rfl
@[simp] theorem clearWorking_tvalid (s : State) : (clearWorking s).tvalid = s.tvalid := rfl
@[simp] theorem clearWorking_table (s : State) : (clearWorking s).table = s.table := rfl
@[simp] theorem clearWorking_crcR (s : State) : (clearWorking s).crcR = 0 := rfl
@[simp] theorem clearWorking_fnvH (s : State) : (clearWorking s).fnvH = 0 := rfl
@[simp] theorem clearWorking_msglen (s : State) : (clearWorking s).msglen = 0 := rfl
@[simp] theorem clearWorking_pending (s : State) : (clearWorking s).pending = s.pending := rfl
@[simp] theorem clearWorking_responses (s : State) : (clearWorking s).responses = s.responses := rfl

/-! ### `latchConfig` (R142) -/

@[simp] theorem latchConfig_engine (s : State) : (latchConfig s).engine = .tableBuilt := rfl
@[simp] theorem latchConfig_dvalid (s : State) : (latchConfig s).dvalid = false := rfl
@[simp] theorem latchConfig_dlen (s : State) : (latchConfig s).dlen = 0 := rfl
@[simp] theorem latchConfig_dbuf (s : State) : (latchConfig s).dbuf = emptyDbuf := rfl
@[simp] theorem latchConfig_err (s : State) : (latchConfig s).err = s.err := rfl
@[simp] theorem latchConfig_errOvf (s : State) : (latchConfig s).errOvf = s.errOvf := rfl
@[simp] theorem latchConfig_errCode (s : State) : (latchConfig s).errCode = s.errCode := rfl
@[simp] theorem latchConfig_errArg (s : State) : (latchConfig s).errArg = s.errArg := rfl
@[simp] theorem latchConfig_errInfo (s : State) : (latchConfig s).errInfo = s.errInfo := rfl
@[simp] theorem latchConfig_data (s : State) : (latchConfig s).data = s.data := rfl
@[simp] theorem latchConfig_cfg (s : State) : (latchConfig s).cfg = s.cfg := rfl
@[simp] theorem latchConfig_polyLo (s : State) : (latchConfig s).polyLo = s.polyLo := rfl
@[simp] theorem latchConfig_polyHi (s : State) : (latchConfig s).polyHi = s.polyHi := rfl
@[simp] theorem latchConfig_initLo (s : State) : (latchConfig s).initLo = s.initLo := rfl
@[simp] theorem latchConfig_initHi (s : State) : (latchConfig s).initHi = s.initHi := rfl
@[simp] theorem latchConfig_xoroutLo (s : State) : (latchConfig s).xoroutLo = s.xoroutLo := rfl
@[simp] theorem latchConfig_xoroutHi (s : State) : (latchConfig s).xoroutHi = s.xoroutHi := rfl
@[simp] theorem latchConfig_acfg (s : State) : (latchConfig s).acfg = s.cfg := rfl
@[simp] theorem latchConfig_aW (s : State) : (latchConfig s).aW = cfgWidth s.cfg := rfl
@[simp] theorem latchConfig_aPoly (s : State) : (latchConfig s).aPoly = s.poly := rfl
@[simp] theorem latchConfig_aInit (s : State) : (latchConfig s).aInit = s.init := rfl
@[simp] theorem latchConfig_aXorout (s : State) : (latchConfig s).aXorout = s.xorout := rfl
@[simp] theorem latchConfig_tvalid (s : State) : (latchConfig s).tvalid = (s.cfg.alg == .crc) := rfl
@[simp] theorem latchConfig_table (s : State) : (latchConfig s).table = if s.cfg.alg == .crc then crcTable (cfgWidth s.cfg).toNat s.poly else emptyTable := rfl
@[simp] theorem latchConfig_crcR (s : State) : (latchConfig s).crcR = 0 := rfl
@[simp] theorem latchConfig_fnvH (s : State) : (latchConfig s).fnvH = 0 := rfl
@[simp] theorem latchConfig_msglen (s : State) : (latchConfig s).msglen = 0 := rfl
@[simp] theorem latchConfig_pending (s : State) : (latchConfig s).pending = s.pending := rfl
@[simp] theorem latchConfig_responses (s : State) : (latchConfig s).responses = s.responses := rfl

/-! ### `discardConfig` (R143) -/

@[simp] theorem discardConfig_engine (s : State) : (discardConfig s).engine = .uninitialized := rfl
@[simp] theorem discardConfig_dvalid (s : State) : (discardConfig s).dvalid = false := rfl
@[simp] theorem discardConfig_dlen (s : State) : (discardConfig s).dlen = 0 := rfl
@[simp] theorem discardConfig_dbuf (s : State) : (discardConfig s).dbuf = emptyDbuf := rfl
@[simp] theorem discardConfig_err (s : State) : (discardConfig s).err = s.err := rfl
@[simp] theorem discardConfig_errOvf (s : State) : (discardConfig s).errOvf = s.errOvf := rfl
@[simp] theorem discardConfig_errCode (s : State) : (discardConfig s).errCode = s.errCode := rfl
@[simp] theorem discardConfig_errArg (s : State) : (discardConfig s).errArg = s.errArg := rfl
@[simp] theorem discardConfig_errInfo (s : State) : (discardConfig s).errInfo = s.errInfo := rfl
@[simp] theorem discardConfig_data (s : State) : (discardConfig s).data = s.data := rfl
@[simp] theorem discardConfig_cfg (s : State) : (discardConfig s).cfg = s.cfg := rfl
@[simp] theorem discardConfig_polyLo (s : State) : (discardConfig s).polyLo = s.polyLo := rfl
@[simp] theorem discardConfig_polyHi (s : State) : (discardConfig s).polyHi = s.polyHi := rfl
@[simp] theorem discardConfig_initLo (s : State) : (discardConfig s).initLo = s.initLo := rfl
@[simp] theorem discardConfig_initHi (s : State) : (discardConfig s).initHi = s.initHi := rfl
@[simp] theorem discardConfig_xoroutLo (s : State) : (discardConfig s).xoroutLo = s.xoroutLo := rfl
@[simp] theorem discardConfig_xoroutHi (s : State) : (discardConfig s).xoroutHi = s.xoroutHi := rfl
@[simp] theorem discardConfig_acfg (s : State) : (discardConfig s).acfg = Cfg.zero := rfl
@[simp] theorem discardConfig_aW (s : State) : (discardConfig s).aW = 0 := rfl
@[simp] theorem discardConfig_aPoly (s : State) : (discardConfig s).aPoly = 0 := rfl
@[simp] theorem discardConfig_aInit (s : State) : (discardConfig s).aInit = 0 := rfl
@[simp] theorem discardConfig_aXorout (s : State) : (discardConfig s).aXorout = 0 := rfl
@[simp] theorem discardConfig_tvalid (s : State) : (discardConfig s).tvalid = false := rfl
@[simp] theorem discardConfig_table (s : State) : (discardConfig s).table = emptyTable := rfl
@[simp] theorem discardConfig_crcR (s : State) : (discardConfig s).crcR = 0 := rfl
@[simp] theorem discardConfig_fnvH (s : State) : (discardConfig s).fnvH = 0 := rfl
@[simp] theorem discardConfig_msglen (s : State) : (discardConfig s).msglen = 0 := rfl
@[simp] theorem discardConfig_pending (s : State) : (discardConfig s).pending = s.pending := rfl
@[simp] theorem discardConfig_responses (s : State) : (discardConfig s).responses = s.responses := rfl

/-! ### `storeDigest` (R163) -/

@[simp] theorem storeDigest_engine (s : State) : (storeDigest s).engine = s.engine := rfl
@[simp] theorem storeDigest_dvalid (s : State) : (storeDigest s).dvalid = true := rfl
@[simp] theorem storeDigest_dlen (s : State) : (storeDigest s).dlen = BitVec.ofNat 8 (s.aW.toNat / 8) := rfl
@[simp] theorem storeDigest_dbuf (s : State) : (storeDigest s).dbuf = padDigest (digestNow s) := rfl
@[simp] theorem storeDigest_err (s : State) : (storeDigest s).err = s.err := rfl
@[simp] theorem storeDigest_errOvf (s : State) : (storeDigest s).errOvf = s.errOvf := rfl
@[simp] theorem storeDigest_errCode (s : State) : (storeDigest s).errCode = s.errCode := rfl
@[simp] theorem storeDigest_errArg (s : State) : (storeDigest s).errArg = s.errArg := rfl
@[simp] theorem storeDigest_errInfo (s : State) : (storeDigest s).errInfo = s.errInfo := rfl
@[simp] theorem storeDigest_data (s : State) : (storeDigest s).data = s.data := rfl
@[simp] theorem storeDigest_cfg (s : State) : (storeDigest s).cfg = s.cfg := rfl
@[simp] theorem storeDigest_polyLo (s : State) : (storeDigest s).polyLo = s.polyLo := rfl
@[simp] theorem storeDigest_polyHi (s : State) : (storeDigest s).polyHi = s.polyHi := rfl
@[simp] theorem storeDigest_initLo (s : State) : (storeDigest s).initLo = s.initLo := rfl
@[simp] theorem storeDigest_initHi (s : State) : (storeDigest s).initHi = s.initHi := rfl
@[simp] theorem storeDigest_xoroutLo (s : State) : (storeDigest s).xoroutLo = s.xoroutLo := rfl
@[simp] theorem storeDigest_xoroutHi (s : State) : (storeDigest s).xoroutHi = s.xoroutHi := rfl
@[simp] theorem storeDigest_acfg (s : State) : (storeDigest s).acfg = s.acfg := rfl
@[simp] theorem storeDigest_aW (s : State) : (storeDigest s).aW = s.aW := rfl
@[simp] theorem storeDigest_aPoly (s : State) : (storeDigest s).aPoly = s.aPoly := rfl
@[simp] theorem storeDigest_aInit (s : State) : (storeDigest s).aInit = s.aInit := rfl
@[simp] theorem storeDigest_aXorout (s : State) : (storeDigest s).aXorout = s.aXorout := rfl
@[simp] theorem storeDigest_tvalid (s : State) : (storeDigest s).tvalid = s.tvalid := rfl
@[simp] theorem storeDigest_table (s : State) : (storeDigest s).table = s.table := rfl
@[simp] theorem storeDigest_crcR (s : State) : (storeDigest s).crcR = s.crcR := rfl
@[simp] theorem storeDigest_fnvH (s : State) : (storeDigest s).fnvH = s.fnvH := rfl
@[simp] theorem storeDigest_msglen (s : State) : (storeDigest s).msglen = s.msglen := rfl
@[simp] theorem storeDigest_pending (s : State) : (storeDigest s).pending = s.pending := rfl
@[simp] theorem storeDigest_responses (s : State) : (storeDigest s).responses = s.responses := rfl

/-! ### `applyReset` (R200) -/

@[simp] theorem applyReset_engine (s : State) : (applyReset s).engine = State.reset.engine := rfl
@[simp] theorem applyReset_dvalid (s : State) : (applyReset s).dvalid = State.reset.dvalid := rfl
@[simp] theorem applyReset_dlen (s : State) : (applyReset s).dlen = State.reset.dlen := rfl
@[simp] theorem applyReset_dbuf (s : State) : (applyReset s).dbuf = State.reset.dbuf := rfl
@[simp] theorem applyReset_err (s : State) : (applyReset s).err = State.reset.err := rfl
@[simp] theorem applyReset_errOvf (s : State) : (applyReset s).errOvf = State.reset.errOvf := rfl
@[simp] theorem applyReset_errCode (s : State) : (applyReset s).errCode = State.reset.errCode := rfl
@[simp] theorem applyReset_errArg (s : State) : (applyReset s).errArg = State.reset.errArg := rfl
@[simp] theorem applyReset_errInfo (s : State) : (applyReset s).errInfo = State.reset.errInfo := rfl
@[simp] theorem applyReset_data (s : State) : (applyReset s).data = State.reset.data := rfl
@[simp] theorem applyReset_cfg (s : State) : (applyReset s).cfg = State.reset.cfg := rfl
@[simp] theorem applyReset_polyLo (s : State) : (applyReset s).polyLo = State.reset.polyLo := rfl
@[simp] theorem applyReset_polyHi (s : State) : (applyReset s).polyHi = State.reset.polyHi := rfl
@[simp] theorem applyReset_initLo (s : State) : (applyReset s).initLo = State.reset.initLo := rfl
@[simp] theorem applyReset_initHi (s : State) : (applyReset s).initHi = State.reset.initHi := rfl
@[simp] theorem applyReset_xoroutLo (s : State) : (applyReset s).xoroutLo = State.reset.xoroutLo := rfl
@[simp] theorem applyReset_xoroutHi (s : State) : (applyReset s).xoroutHi = State.reset.xoroutHi := rfl
@[simp] theorem applyReset_acfg (s : State) : (applyReset s).acfg = State.reset.acfg := rfl
@[simp] theorem applyReset_aW (s : State) : (applyReset s).aW = State.reset.aW := rfl
@[simp] theorem applyReset_aPoly (s : State) : (applyReset s).aPoly = State.reset.aPoly := rfl
@[simp] theorem applyReset_aInit (s : State) : (applyReset s).aInit = State.reset.aInit := rfl
@[simp] theorem applyReset_aXorout (s : State) : (applyReset s).aXorout = State.reset.aXorout := rfl
@[simp] theorem applyReset_tvalid (s : State) : (applyReset s).tvalid = State.reset.tvalid := rfl
@[simp] theorem applyReset_table (s : State) : (applyReset s).table = State.reset.table := rfl
@[simp] theorem applyReset_crcR (s : State) : (applyReset s).crcR = State.reset.crcR := rfl
@[simp] theorem applyReset_fnvH (s : State) : (applyReset s).fnvH = State.reset.fnvH := rfl
@[simp] theorem applyReset_msglen (s : State) : (applyReset s).msglen = State.reset.msglen := rfl
@[simp] theorem applyReset_pending (s : State) : (applyReset s).pending = s.pending := rfl
@[simp] theorem applyReset_responses (s : State) : (applyReset s).responses = s.responses := rfl

/-! ### `respond` -/

@[simp] theorem respond_engine (s : State) (r : Response) : (respond r s).engine = s.engine := rfl
@[simp] theorem respond_dvalid (s : State) (r : Response) : (respond r s).dvalid = s.dvalid := rfl
@[simp] theorem respond_dlen (s : State) (r : Response) : (respond r s).dlen = s.dlen := rfl
@[simp] theorem respond_dbuf (s : State) (r : Response) : (respond r s).dbuf = s.dbuf := rfl
@[simp] theorem respond_err (s : State) (r : Response) : (respond r s).err = s.err := rfl
@[simp] theorem respond_errOvf (s : State) (r : Response) : (respond r s).errOvf = s.errOvf := rfl
@[simp] theorem respond_errCode (s : State) (r : Response) : (respond r s).errCode = s.errCode := rfl
@[simp] theorem respond_errArg (s : State) (r : Response) : (respond r s).errArg = s.errArg := rfl
@[simp] theorem respond_errInfo (s : State) (r : Response) : (respond r s).errInfo = s.errInfo := rfl
@[simp] theorem respond_data (s : State) (r : Response) : (respond r s).data = s.data := rfl
@[simp] theorem respond_cfg (s : State) (r : Response) : (respond r s).cfg = s.cfg := rfl
@[simp] theorem respond_polyLo (s : State) (r : Response) : (respond r s).polyLo = s.polyLo := rfl
@[simp] theorem respond_polyHi (s : State) (r : Response) : (respond r s).polyHi = s.polyHi := rfl
@[simp] theorem respond_initLo (s : State) (r : Response) : (respond r s).initLo = s.initLo := rfl
@[simp] theorem respond_initHi (s : State) (r : Response) : (respond r s).initHi = s.initHi := rfl
@[simp] theorem respond_xoroutLo (s : State) (r : Response) : (respond r s).xoroutLo = s.xoroutLo := rfl
@[simp] theorem respond_xoroutHi (s : State) (r : Response) : (respond r s).xoroutHi = s.xoroutHi := rfl
@[simp] theorem respond_acfg (s : State) (r : Response) : (respond r s).acfg = s.acfg := rfl
@[simp] theorem respond_aW (s : State) (r : Response) : (respond r s).aW = s.aW := rfl
@[simp] theorem respond_aPoly (s : State) (r : Response) : (respond r s).aPoly = s.aPoly := rfl
@[simp] theorem respond_aInit (s : State) (r : Response) : (respond r s).aInit = s.aInit := rfl
@[simp] theorem respond_aXorout (s : State) (r : Response) : (respond r s).aXorout = s.aXorout := rfl
@[simp] theorem respond_tvalid (s : State) (r : Response) : (respond r s).tvalid = s.tvalid := rfl
@[simp] theorem respond_table (s : State) (r : Response) : (respond r s).table = s.table := rfl
@[simp] theorem respond_crcR (s : State) (r : Response) : (respond r s).crcR = s.crcR := rfl
@[simp] theorem respond_fnvH (s : State) (r : Response) : (respond r s).fnvH = s.fnvH := rfl
@[simp] theorem respond_msglen (s : State) (r : Response) : (respond r s).msglen = s.msglen := rfl
@[simp] theorem respond_pending (s : State) (r : Response) : (respond r s).pending = s.pending := rfl
@[simp] theorem respond_responses (s : State) (r : Response) : (respond r s).responses = s.responses ++ [r] := rfl

/-! ### `raiseError` (R184) -/

@[simp] theorem raiseError_engine (s : State) (c : ErrorCode) (a : ErrorArg) (w : Word) : (raiseError c a w s).engine = s.engine := by unfold raiseError; split <;> rfl
@[simp] theorem raiseError_dvalid (s : State) (c : ErrorCode) (a : ErrorArg) (w : Word) : (raiseError c a w s).dvalid = s.dvalid := by unfold raiseError; split <;> rfl
@[simp] theorem raiseError_dlen (s : State) (c : ErrorCode) (a : ErrorArg) (w : Word) : (raiseError c a w s).dlen = s.dlen := by unfold raiseError; split <;> rfl
@[simp] theorem raiseError_dbuf (s : State) (c : ErrorCode) (a : ErrorArg) (w : Word) : (raiseError c a w s).dbuf = s.dbuf := by unfold raiseError; split <;> rfl
@[simp] theorem raiseError_err (s : State) (c : ErrorCode) (a : ErrorArg) (w : Word) : (raiseError c a w s).err = true := by unfold raiseError; split <;> simp_all
@[simp] theorem raiseError_errOvf (s : State) (c : ErrorCode) (a : ErrorArg) (w : Word) : (raiseError c a w s).errOvf = (s.err || s.errOvf) := by unfold raiseError; split <;> simp_all
@[simp] theorem raiseError_errCode (s : State) (c : ErrorCode) (a : ErrorArg) (w : Word) : (raiseError c a w s).errCode = if s.err then s.errCode else c := by unfold raiseError; split <;> simp_all
@[simp] theorem raiseError_errArg (s : State) (c : ErrorCode) (a : ErrorArg) (w : Word) : (raiseError c a w s).errArg = if s.err then s.errArg else a := by unfold raiseError; split <;> simp_all
@[simp] theorem raiseError_errInfo (s : State) (c : ErrorCode) (a : ErrorArg) (w : Word) : (raiseError c a w s).errInfo = if s.err then s.errInfo else w := by unfold raiseError; split <;> simp_all
@[simp] theorem raiseError_data (s : State) (c : ErrorCode) (a : ErrorArg) (w : Word) : (raiseError c a w s).data = s.data := by unfold raiseError; split <;> rfl
@[simp] theorem raiseError_cfg (s : State) (c : ErrorCode) (a : ErrorArg) (w : Word) : (raiseError c a w s).cfg = s.cfg := by unfold raiseError; split <;> rfl
@[simp] theorem raiseError_polyLo (s : State) (c : ErrorCode) (a : ErrorArg) (w : Word) : (raiseError c a w s).polyLo = s.polyLo := by unfold raiseError; split <;> rfl
@[simp] theorem raiseError_polyHi (s : State) (c : ErrorCode) (a : ErrorArg) (w : Word) : (raiseError c a w s).polyHi = s.polyHi := by unfold raiseError; split <;> rfl
@[simp] theorem raiseError_initLo (s : State) (c : ErrorCode) (a : ErrorArg) (w : Word) : (raiseError c a w s).initLo = s.initLo := by unfold raiseError; split <;> rfl
@[simp] theorem raiseError_initHi (s : State) (c : ErrorCode) (a : ErrorArg) (w : Word) : (raiseError c a w s).initHi = s.initHi := by unfold raiseError; split <;> rfl
@[simp] theorem raiseError_xoroutLo (s : State) (c : ErrorCode) (a : ErrorArg) (w : Word) : (raiseError c a w s).xoroutLo = s.xoroutLo := by unfold raiseError; split <;> rfl
@[simp] theorem raiseError_xoroutHi (s : State) (c : ErrorCode) (a : ErrorArg) (w : Word) : (raiseError c a w s).xoroutHi = s.xoroutHi := by unfold raiseError; split <;> rfl
@[simp] theorem raiseError_acfg (s : State) (c : ErrorCode) (a : ErrorArg) (w : Word) : (raiseError c a w s).acfg = s.acfg := by unfold raiseError; split <;> rfl
@[simp] theorem raiseError_aW (s : State) (c : ErrorCode) (a : ErrorArg) (w : Word) : (raiseError c a w s).aW = s.aW := by unfold raiseError; split <;> rfl
@[simp] theorem raiseError_aPoly (s : State) (c : ErrorCode) (a : ErrorArg) (w : Word) : (raiseError c a w s).aPoly = s.aPoly := by unfold raiseError; split <;> rfl
@[simp] theorem raiseError_aInit (s : State) (c : ErrorCode) (a : ErrorArg) (w : Word) : (raiseError c a w s).aInit = s.aInit := by unfold raiseError; split <;> rfl
@[simp] theorem raiseError_aXorout (s : State) (c : ErrorCode) (a : ErrorArg) (w : Word) : (raiseError c a w s).aXorout = s.aXorout := by unfold raiseError; split <;> rfl
@[simp] theorem raiseError_tvalid (s : State) (c : ErrorCode) (a : ErrorArg) (w : Word) : (raiseError c a w s).tvalid = s.tvalid := by unfold raiseError; split <;> rfl
@[simp] theorem raiseError_table (s : State) (c : ErrorCode) (a : ErrorArg) (w : Word) : (raiseError c a w s).table = s.table := by unfold raiseError; split <;> rfl
@[simp] theorem raiseError_crcR (s : State) (c : ErrorCode) (a : ErrorArg) (w : Word) : (raiseError c a w s).crcR = s.crcR := by unfold raiseError; split <;> rfl
@[simp] theorem raiseError_fnvH (s : State) (c : ErrorCode) (a : ErrorArg) (w : Word) : (raiseError c a w s).fnvH = s.fnvH := by unfold raiseError; split <;> rfl
@[simp] theorem raiseError_msglen (s : State) (c : ErrorCode) (a : ErrorArg) (w : Word) : (raiseError c a w s).msglen = s.msglen := by unfold raiseError; split <;> rfl
@[simp] theorem raiseError_pending (s : State) (c : ErrorCode) (a : ErrorArg) (w : Word) : (raiseError c a w s).pending = s.pending := by unfold raiseError; split <;> rfl
@[simp] theorem raiseError_responses (s : State) (c : ErrorCode) (a : ErrorArg) (w : Word) : (raiseError c a w s).responses = s.responses := by unfold raiseError; split <;> rfl

/-! ### `openMessage` (R144) -/

@[simp] theorem openMessage_engine (s : State) : (openMessage s).engine = .ready := by unfold openMessage; split <;> rfl
@[simp] theorem openMessage_dvalid (s : State) : (openMessage s).dvalid = false := by unfold openMessage; split <;> rfl
@[simp] theorem openMessage_dlen (s : State) : (openMessage s).dlen = 0 := by unfold openMessage; split <;> rfl
@[simp] theorem openMessage_dbuf (s : State) : (openMessage s).dbuf = emptyDbuf := by unfold openMessage; split <;> rfl
@[simp] theorem openMessage_err (s : State) : (openMessage s).err = s.err := by unfold openMessage; split <;> rfl
@[simp] theorem openMessage_errOvf (s : State) : (openMessage s).errOvf = s.errOvf := by unfold openMessage; split <;> rfl
@[simp] theorem openMessage_errCode (s : State) : (openMessage s).errCode = s.errCode := by unfold openMessage; split <;> rfl
@[simp] theorem openMessage_errArg (s : State) : (openMessage s).errArg = s.errArg := by unfold openMessage; split <;> rfl
@[simp] theorem openMessage_errInfo (s : State) : (openMessage s).errInfo = s.errInfo := by unfold openMessage; split <;> rfl
@[simp] theorem openMessage_data (s : State) : (openMessage s).data = s.data := by unfold openMessage; split <;> rfl
@[simp] theorem openMessage_cfg (s : State) : (openMessage s).cfg = s.cfg := by unfold openMessage; split <;> rfl
@[simp] theorem openMessage_polyLo (s : State) : (openMessage s).polyLo = s.polyLo := by unfold openMessage; split <;> rfl
@[simp] theorem openMessage_polyHi (s : State) : (openMessage s).polyHi = s.polyHi := by unfold openMessage; split <;> rfl
@[simp] theorem openMessage_initLo (s : State) : (openMessage s).initLo = s.initLo := by unfold openMessage; split <;> rfl
@[simp] theorem openMessage_initHi (s : State) : (openMessage s).initHi = s.initHi := by unfold openMessage; split <;> rfl
@[simp] theorem openMessage_xoroutLo (s : State) : (openMessage s).xoroutLo = s.xoroutLo := by unfold openMessage; split <;> rfl
@[simp] theorem openMessage_xoroutHi (s : State) : (openMessage s).xoroutHi = s.xoroutHi := by unfold openMessage; split <;> rfl
@[simp] theorem openMessage_acfg (s : State) : (openMessage s).acfg = s.acfg := by unfold openMessage; split <;> rfl
@[simp] theorem openMessage_aW (s : State) : (openMessage s).aW = s.aW := by unfold openMessage; split <;> rfl
@[simp] theorem openMessage_aPoly (s : State) : (openMessage s).aPoly = s.aPoly := by unfold openMessage; split <;> rfl
@[simp] theorem openMessage_aInit (s : State) : (openMessage s).aInit = s.aInit := by unfold openMessage; split <;> rfl
@[simp] theorem openMessage_aXorout (s : State) : (openMessage s).aXorout = s.aXorout := by unfold openMessage; split <;> rfl
@[simp] theorem openMessage_tvalid (s : State) : (openMessage s).tvalid = s.tvalid := by unfold openMessage; split <;> rfl
@[simp] theorem openMessage_table (s : State) : (openMessage s).table = s.table := by unfold openMessage; split <;> rfl
@[simp] theorem openMessage_crcR (s : State) : (openMessage s).crcR = if s.acfg.alg = .crc then s.aInit else s.crcR := by unfold openMessage; split <;> simp_all
@[simp] theorem openMessage_fnvH (s : State) : (openMessage s).fnvH = if s.acfg.alg = .fnv then fnvStart s.aW.toNat else s.fnvH := by unfold openMessage; split <;> simp_all
@[simp] theorem openMessage_msglen (s : State) : (openMessage s).msglen = 0 := by unfold openMessage; split <;> rfl
@[simp] theorem openMessage_pending (s : State) : (openMessage s).pending = s.pending := by unfold openMessage; split <;> rfl
@[simp] theorem openMessage_responses (s : State) : (openMessage s).responses = s.responses := by unfold openMessage; split <;> rfl

/-! ### `absorb` (R160) -/

@[simp] theorem absorb_engine (s : State) (b : Byte) : (absorb s b).engine = s.engine := by unfold absorb; split <;> rfl
@[simp] theorem absorb_dvalid (s : State) (b : Byte) : (absorb s b).dvalid = false := by unfold absorb; split <;> rfl
@[simp] theorem absorb_dlen (s : State) (b : Byte) : (absorb s b).dlen = 0 := by unfold absorb; split <;> rfl
@[simp] theorem absorb_dbuf (s : State) (b : Byte) : (absorb s b).dbuf = emptyDbuf := by unfold absorb; split <;> rfl
@[simp] theorem absorb_err (s : State) (b : Byte) : (absorb s b).err = s.err := by unfold absorb; split <;> rfl
@[simp] theorem absorb_errOvf (s : State) (b : Byte) : (absorb s b).errOvf = s.errOvf := by unfold absorb; split <;> rfl
@[simp] theorem absorb_errCode (s : State) (b : Byte) : (absorb s b).errCode = s.errCode := by unfold absorb; split <;> rfl
@[simp] theorem absorb_errArg (s : State) (b : Byte) : (absorb s b).errArg = s.errArg := by unfold absorb; split <;> rfl
@[simp] theorem absorb_errInfo (s : State) (b : Byte) : (absorb s b).errInfo = s.errInfo := by unfold absorb; split <;> rfl
@[simp] theorem absorb_data (s : State) (b : Byte) : (absorb s b).data = s.data := by unfold absorb; split <;> rfl
@[simp] theorem absorb_cfg (s : State) (b : Byte) : (absorb s b).cfg = s.cfg := by unfold absorb; split <;> rfl
@[simp] theorem absorb_polyLo (s : State) (b : Byte) : (absorb s b).polyLo = s.polyLo := by unfold absorb; split <;> rfl
@[simp] theorem absorb_polyHi (s : State) (b : Byte) : (absorb s b).polyHi = s.polyHi := by unfold absorb; split <;> rfl
@[simp] theorem absorb_initLo (s : State) (b : Byte) : (absorb s b).initLo = s.initLo := by unfold absorb; split <;> rfl
@[simp] theorem absorb_initHi (s : State) (b : Byte) : (absorb s b).initHi = s.initHi := by unfold absorb; split <;> rfl
@[simp] theorem absorb_xoroutLo (s : State) (b : Byte) : (absorb s b).xoroutLo = s.xoroutLo := by unfold absorb; split <;> rfl
@[simp] theorem absorb_xoroutHi (s : State) (b : Byte) : (absorb s b).xoroutHi = s.xoroutHi := by unfold absorb; split <;> rfl
@[simp] theorem absorb_acfg (s : State) (b : Byte) : (absorb s b).acfg = s.acfg := by unfold absorb; split <;> rfl
@[simp] theorem absorb_aW (s : State) (b : Byte) : (absorb s b).aW = s.aW := by unfold absorb; split <;> rfl
@[simp] theorem absorb_aPoly (s : State) (b : Byte) : (absorb s b).aPoly = s.aPoly := by unfold absorb; split <;> rfl
@[simp] theorem absorb_aInit (s : State) (b : Byte) : (absorb s b).aInit = s.aInit := by unfold absorb; split <;> rfl
@[simp] theorem absorb_aXorout (s : State) (b : Byte) : (absorb s b).aXorout = s.aXorout := by unfold absorb; split <;> rfl
@[simp] theorem absorb_tvalid (s : State) (b : Byte) : (absorb s b).tvalid = s.tvalid := by unfold absorb; split <;> rfl
@[simp] theorem absorb_table (s : State) (b : Byte) : (absorb s b).table = s.table := by unfold absorb; split <;> rfl
@[simp] theorem absorb_crcR (s : State) (b : Byte) : (absorb s b).crcR = if s.acfg.alg = .crc then crcStep s.aW.toNat s.acfg.refin s.table s.crcR b else s.crcR := by unfold absorb; split <;> simp_all
@[simp] theorem absorb_fnvH (s : State) (b : Byte) : (absorb s b).fnvH = if s.acfg.alg = .fnv then fnvStep s.aW.toNat s.fnvH b else s.fnvH := by unfold absorb; split <;> simp_all
@[simp] theorem absorb_msglen (s : State) (b : Byte) : (absorb s b).msglen = s.msglen + 1 := by unfold absorb; split <;> rfl
@[simp] theorem absorb_pending (s : State) (b : Byte) : (absorb s b).pending = s.pending := by unfold absorb; split <;> rfl
@[simp] theorem absorb_responses (s : State) (b : Byte) : (absorb s b).responses = s.responses := by unfold absorb; split <;> rfl

/-! ### `absorbAll` (R162): what it leaves alone; the rest is in Laws/Ops.lean -/

@[simp] theorem absorbAll_engine (s : State) (m : List Byte) : (absorbAll s m).engine = s.engine := by
  induction m generalizing s with
  | nil => rfl
  | cons b m ih => exact (ih (absorb s b)).trans (absorb_engine s b)
@[simp] theorem absorbAll_err (s : State) (m : List Byte) : (absorbAll s m).err = s.err := by
  induction m generalizing s with
  | nil => rfl
  | cons b m ih => exact (ih (absorb s b)).trans (absorb_err s b)
@[simp] theorem absorbAll_errOvf (s : State) (m : List Byte) : (absorbAll s m).errOvf = s.errOvf := by
  induction m generalizing s with
  | nil => rfl
  | cons b m ih => exact (ih (absorb s b)).trans (absorb_errOvf s b)
@[simp] theorem absorbAll_errCode (s : State) (m : List Byte) : (absorbAll s m).errCode = s.errCode := by
  induction m generalizing s with
  | nil => rfl
  | cons b m ih => exact (ih (absorb s b)).trans (absorb_errCode s b)
@[simp] theorem absorbAll_errArg (s : State) (m : List Byte) : (absorbAll s m).errArg = s.errArg := by
  induction m generalizing s with
  | nil => rfl
  | cons b m ih => exact (ih (absorb s b)).trans (absorb_errArg s b)
@[simp] theorem absorbAll_errInfo (s : State) (m : List Byte) : (absorbAll s m).errInfo = s.errInfo := by
  induction m generalizing s with
  | nil => rfl
  | cons b m ih => exact (ih (absorb s b)).trans (absorb_errInfo s b)
@[simp] theorem absorbAll_data (s : State) (m : List Byte) : (absorbAll s m).data = s.data := by
  induction m generalizing s with
  | nil => rfl
  | cons b m ih => exact (ih (absorb s b)).trans (absorb_data s b)
@[simp] theorem absorbAll_cfg (s : State) (m : List Byte) : (absorbAll s m).cfg = s.cfg := by
  induction m generalizing s with
  | nil => rfl
  | cons b m ih => exact (ih (absorb s b)).trans (absorb_cfg s b)
@[simp] theorem absorbAll_polyLo (s : State) (m : List Byte) : (absorbAll s m).polyLo = s.polyLo := by
  induction m generalizing s with
  | nil => rfl
  | cons b m ih => exact (ih (absorb s b)).trans (absorb_polyLo s b)
@[simp] theorem absorbAll_polyHi (s : State) (m : List Byte) : (absorbAll s m).polyHi = s.polyHi := by
  induction m generalizing s with
  | nil => rfl
  | cons b m ih => exact (ih (absorb s b)).trans (absorb_polyHi s b)
@[simp] theorem absorbAll_initLo (s : State) (m : List Byte) : (absorbAll s m).initLo = s.initLo := by
  induction m generalizing s with
  | nil => rfl
  | cons b m ih => exact (ih (absorb s b)).trans (absorb_initLo s b)
@[simp] theorem absorbAll_initHi (s : State) (m : List Byte) : (absorbAll s m).initHi = s.initHi := by
  induction m generalizing s with
  | nil => rfl
  | cons b m ih => exact (ih (absorb s b)).trans (absorb_initHi s b)
@[simp] theorem absorbAll_xoroutLo (s : State) (m : List Byte) : (absorbAll s m).xoroutLo = s.xoroutLo := by
  induction m generalizing s with
  | nil => rfl
  | cons b m ih => exact (ih (absorb s b)).trans (absorb_xoroutLo s b)
@[simp] theorem absorbAll_xoroutHi (s : State) (m : List Byte) : (absorbAll s m).xoroutHi = s.xoroutHi := by
  induction m generalizing s with
  | nil => rfl
  | cons b m ih => exact (ih (absorb s b)).trans (absorb_xoroutHi s b)
@[simp] theorem absorbAll_acfg (s : State) (m : List Byte) : (absorbAll s m).acfg = s.acfg := by
  induction m generalizing s with
  | nil => rfl
  | cons b m ih => exact (ih (absorb s b)).trans (absorb_acfg s b)
@[simp] theorem absorbAll_aW (s : State) (m : List Byte) : (absorbAll s m).aW = s.aW := by
  induction m generalizing s with
  | nil => rfl
  | cons b m ih => exact (ih (absorb s b)).trans (absorb_aW s b)
@[simp] theorem absorbAll_aPoly (s : State) (m : List Byte) : (absorbAll s m).aPoly = s.aPoly := by
  induction m generalizing s with
  | nil => rfl
  | cons b m ih => exact (ih (absorb s b)).trans (absorb_aPoly s b)
@[simp] theorem absorbAll_aInit (s : State) (m : List Byte) : (absorbAll s m).aInit = s.aInit := by
  induction m generalizing s with
  | nil => rfl
  | cons b m ih => exact (ih (absorb s b)).trans (absorb_aInit s b)
@[simp] theorem absorbAll_aXorout (s : State) (m : List Byte) : (absorbAll s m).aXorout = s.aXorout := by
  induction m generalizing s with
  | nil => rfl
  | cons b m ih => exact (ih (absorb s b)).trans (absorb_aXorout s b)
@[simp] theorem absorbAll_tvalid (s : State) (m : List Byte) : (absorbAll s m).tvalid = s.tvalid := by
  induction m generalizing s with
  | nil => rfl
  | cons b m ih => exact (ih (absorb s b)).trans (absorb_tvalid s b)
@[simp] theorem absorbAll_table (s : State) (m : List Byte) : (absorbAll s m).table = s.table := by
  induction m generalizing s with
  | nil => rfl
  | cons b m ih => exact (ih (absorb s b)).trans (absorb_table s b)
@[simp] theorem absorbAll_pending (s : State) (m : List Byte) : (absorbAll s m).pending = s.pending := by
  induction m generalizing s with
  | nil => rfl
  | cons b m ih => exact (ih (absorb s b)).trans (absorb_pending s b)
@[simp] theorem absorbAll_responses (s : State) (m : List Byte) : (absorbAll s m).responses = s.responses := by
  induction m generalizing s with
  | nil => rfl
  | cons b m ih => exact (ih (absorb s b)).trans (absorb_responses s b)

end Sys2Proof.Machine
end

