-- ==== Sys2Proof/Laws/Ops.lean ====
section
/-! SUPPORT. One lemma for each shared operation: everything it can do.  Later proofs cite these and do not unfold the
operations. -/

namespace Sys2Proof.Machine

/-! ### Which parts of the state an operation leaves alone -/

theorem SameStaging.refl (s : State) : SameStaging s s := ⟨rfl, rfl, rfl, rfl, rfl, rfl, rfl, rfl⟩
theorem SameActive.refl (s : State) : SameActive s s := ⟨rfl, rfl, rfl, rfl, rfl, rfl, rfl⟩
theorem SameWorking.refl (s : State) : SameWorking s s := ⟨rfl, rfl, rfl⟩
theorem SameDigest.refl (s : State) : SameDigest s s := ⟨rfl, rfl, rfl⟩
theorem SameError.refl (s : State) : SameError s s := ⟨rfl, rfl, rfl, rfl, rfl⟩
theorem SameBus.refl (s : State) : SameBus s s := ⟨rfl, rfl⟩
theorem SameBlock.refl (s : State) : SameBlock s s :=
  ⟨rfl, .refl s, .refl s, .refl s, .refl s, .refl s⟩

theorem raiseError_sameButError (c : ErrorCode) (a : ErrorArg) (w : Word) (s : State) :
    SameButError s (raiseError c a w s) := by
  constructor <;> first | (constructor <;> simp) | simp

/-- Error capture, whole (R184). -/
theorem raiseError_captured (c : ErrorCode) (a : ErrorArg) (w : Word) (s : State) :
    Captured c a w s (raiseError c a w s) := by
  constructor <;> intros <;> simp_all

theorem invalidateDigest_empty (s : State) : DigestEmpty (invalidateDigest s) := ⟨rfl, rfl, rfl⟩

theorem discardConfig_spec (s : State) :
    NoConfig (discardConfig s) ∧ WorkingZero (discardConfig s) ∧ DigestEmpty (discardConfig s)
      ∧ SameStaging s (discardConfig s) ∧ SameError s (discardConfig s) ∧ SameBus s (discardConfig s) :=
  ⟨⟨rfl, rfl, rfl, rfl, rfl, rfl, rfl⟩, ⟨rfl, rfl, rfl⟩, ⟨rfl, rfl, rfl⟩, ⟨rfl, rfl, rfl, rfl, rfl, rfl, rfl, rfl⟩,
    ⟨rfl, rfl, rfl, rfl, rfl⟩, ⟨rfl, rfl⟩⟩

theorem latchConfig_spec (s : State) :
    WorkingZero (latchConfig s) ∧ DigestEmpty (latchConfig s) ∧ SameStaging s (latchConfig s)
      ∧ SameError s (latchConfig s) ∧ SameBus s (latchConfig s) :=
  ⟨⟨rfl, rfl, rfl⟩, ⟨rfl, rfl, rfl⟩, ⟨rfl, rfl, rfl, rfl, rfl, rfl, rfl, rfl⟩, ⟨rfl, rfl, rfl, rfl, rfl⟩, ⟨rfl, rfl⟩⟩

theorem openMessage_spec (s : State) :
    DigestEmpty (openMessage s) ∧ SameStaging s (openMessage s) ∧ SameActive s (openMessage s)
      ∧ SameError s (openMessage s) ∧ SameBus s (openMessage s) := by
  refine ⟨?_, ?_, ?_, ?_, ?_⟩ <;> constructor <;> simp

theorem absorb_spec (s : State) (b : Byte) :
    DigestEmpty (absorb s b) ∧ SameStaging s (absorb s b) ∧ SameActive s (absorb s b) ∧ SameError s (absorb s b)
      ∧ SameBus s (absorb s b) := by
  refine ⟨?_, ?_, ?_, ?_, ?_⟩ <;> constructor <;> simp

/-! ### Absorbing a sequence of bytes -/

@[simp] theorem absorbAll_nil (s : State) : absorbAll s [] = s := rfl

@[simp] theorem absorbAll_cons (s : State) (b : Byte) (m : List Byte) : absorbAll s (b :: m) = absorbAll (absorb s b) m := rfl

theorem absorbAll_append (s : State) (m n : List Byte) : absorbAll s (m ++ n) = absorbAll (absorbAll s m) n := by
  simp [absorbAll, List.foldl_append]

theorem absorbAll_crc (s : State) (m : List Byte) (h : s.acfg.alg = .crc) :
    (absorbAll s m).crcR = crcReg s.aW.toNat s.acfg.refin s.table s.crcR m ∧ (absorbAll s m).fnvH = s.fnvH := by
  induction m generalizing s with
  | nil => exact ⟨rfl, rfl⟩
  | cons b m ih =>
    obtain ⟨hc, hf⟩ := ih (absorb s b) (by simpa using h)
    constructor
    · rw [absorbAll_cons, hc]; simp [crcReg, h]
    · rw [absorbAll_cons, hf]; simp [h]

theorem absorbAll_fnv (s : State) (m : List Byte) (h : s.acfg.alg = .fnv) :
    (absorbAll s m).fnvH = m.foldl (fnvStep s.aW.toNat) s.fnvH ∧ (absorbAll s m).crcR = s.crcR := by
  induction m generalizing s with
  | nil => exact ⟨rfl, rfl⟩
  | cons b m ih =>
    obtain ⟨hf, hc⟩ := ih (absorb s b) (by simpa using h)
    constructor
    · rw [absorbAll_cons, hf]; simp [h]
    · rw [absorbAll_cons, hc]; simp [h]

theorem absorbAll_msglen (s : State) (m : List Byte) :
    (absorbAll s m).msglen = s.msglen + BitVec.ofNat 64 m.length := by
  induction m generalizing s with
  | nil => simp
  | cons b m ih =>
    rw [absorbAll_cons, ih, absorb_msglen, List.length_cons, BitVec.add_assoc]
    congr 1
    rw [Nat.add_comm m.length 1, BitVec.ofNat_add]
    rfl

theorem absorbAll_digestEmpty (s : State) (b : Byte) (m : List Byte) : DigestEmpty (absorbAll s (b :: m)) := by
  induction m generalizing s b with
  | nil => exact (absorb_spec s b).1
  | cons c m ih => exact ih (absorb s b) c

/-- Absorbing makes no digest valid (R160, R166). -/
theorem absorbAll_dvalid_eq_false (s : State) (m : List Byte) (h : s.dvalid = false) : (absorbAll s m).dvalid = false := by
  cases m with
  | nil => exact h
  | cons b m => exact (absorbAll_digestEmpty s b m).dvalid

theorem absorbAll_frame (s : State) (m : List Byte) :
    SameStaging s (absorbAll s m) ∧ SameActive s (absorbAll s m) ∧ SameError s (absorbAll s m)
      ∧ SameBus s (absorbAll s m) := by
  refine ⟨?_, ?_, ?_, ?_⟩ <;> constructor <;> simp

/-! ### The check of CONFIGURE -/

theorem legalCrcWidth_iff (w : Nat) : legalCrcWidth w = true ↔ w ∈ [8, 16, 24, 32, 40, 48, 56, 64] := by
  simp [legalCrcWidth]

theorem fnvWidth_isNone_iff (sel : BitVec 3) : (fnvWidth sel).isNone = true ↔ 6 ≤ sel.toNat := by
  revert sel; decide

/-- A width's code is the code that selects it (R29). -/
theorem fnvCode_eq_some_iff (w : Nat) (sel : BitVec 3) : fnvCode w = some sel ↔ fnvWidth sel = some w := by
  constructor
  · unfold fnvCode
    split <;> intro h <;> cases h <;> rfl
  · revert sel
    have : ∀ sel : BitVec 3, (fnvWidth sel).all (fun v => fnvCode v == some sel) = true := by decide
    intro sel h
    simpa [h] using this sel

theorem configureCheck_eq_none_iff (s : State) : configureCheck s = none ↔ ConfigPasses s := by
  unfold configureCheck
  constructor
  · intro h
    split at h
    next alg =>
      split at h; · simp at h
      split at h; · simp at h
      split at h; · simp at h
      split at h; · simp at h
      next hw hp hi hx =>
      exact .crc alg ((legalCrcWidth_iff _).1 (by simpa using hw)) (by omega) (by omega) (by omega)
    next alg =>
      split at h; · simp at h
      next hw => exact .fnv alg (by rw [fnvWidth_isNone_iff] at hw; omega)
  · rintro (⟨alg, width, poly, init, xorout⟩ | ⟨alg, width⟩)
    · simp [alg, (legalCrcWidth_iff _).2 width, Nat.not_le.2 poly, Nat.not_le.2 init, Nat.not_le.2 xorout]
    · have : ¬ (fnvWidth s.cfg.fnvWsel).isNone = true := by rw [fnvWidth_isNone_iff]; omega
      simpa [alg] using this

theorem configureCheck_eq_some_iff (s : State) (c : ErrorCode) (a : ErrorArg) :
    configureCheck s = some (c, a) ↔ FirstFailure s c a := by
  unfold configureCheck
  constructor
  · intro h
    split at h
    next alg =>
      split at h
      next hw =>
        obtain ⟨rfl, rfl⟩ : _ ∧ _ := by simpa using h
        refine .crcWidth alg fun hm => ?_
        simp [(legalCrcWidth_iff _).2 hm] at hw
      next hw =>
      have hw := (legalCrcWidth_iff _).1 (by simpa using hw)
      split at h
      next hp => obtain ⟨rfl, rfl⟩ : _ ∧ _ := by simpa using h
                 exact .poly alg hw hp
      next hp =>
      split at h
      next hi => obtain ⟨rfl, rfl⟩ : _ ∧ _ := by simpa using h
                 exact .init alg hw (by omega) hi
      next hi =>
      split at h
      next hx => obtain ⟨rfl, rfl⟩ : _ ∧ _ := by simpa using h
                 exact .xorout alg hw (by omega) (by omega) hx
      next => simp at h
    next alg =>
      split at h
      next hw => obtain ⟨rfl, rfl⟩ : _ ∧ _ := by simpa using h
                 exact .fnvWidth alg ((fnvWidth_isNone_iff _).1 hw)
      next => simp at h
  · rintro (⟨alg, width⟩ | ⟨alg, width, poly⟩ | ⟨alg, width, poly, init⟩ | ⟨alg, width, poly, init, xorout⟩ |
      ⟨alg, width⟩)
    · have : ¬ legalCrcWidth s.cfg.crcWidth.toNat = true := fun h => width ((legalCrcWidth_iff _).1 h)
      simp [alg, this]
    · simp [alg, (legalCrcWidth_iff _).2 width, poly]
    · simp [alg, (legalCrcWidth_iff _).2 width, Nat.not_le.2 poly, init]
    · simp [alg, (legalCrcWidth_iff _).2 width, Nat.not_le.2 poly, Nat.not_le.2 init, xorout]
    · simp [alg, (fnvWidth_isNone_iff _).2 width]

/-! ### The empty buffer and the empty table -/

@[simp] theorem emptyDbuf_length : emptyDbuf.length = 128 := List.length_replicate

@[simp] theorem emptyTable_length : emptyTable.length = 256 := List.length_replicate

@[simp] theorem emptyDbuf_getD (k : Nat) : emptyDbuf.getD k 0 = 0 := by
  unfold emptyDbuf
  rw [List.getD_eq_getElem?_getD, List.getElem?_replicate]
  split <;> rfl

/-! ### The table, the serialisation and the digest buffer -/

@[simp] theorem crcTable_length (w : Nat) (p : Word64) : (crcTable w p).length = 256 := by
  simp [crcTable, Config.crcTableSize]

@[simp] theorem tableAt_crcTable (w : Nat) (p : Word64) (b : Byte) : tableAt (crcTable w p) b = crcTableEntry w p b := by
  have := b.isLt
  simp [tableAt, crcTable, Config.crcTableSize, List.getD_eq_getElem?_getD, this]

@[simp] theorem tableAt_emptyTable (b : Byte) : tableAt emptyTable b = 0 := by
  unfold tableAt emptyTable
  rw [List.getD_eq_getElem?_getD, List.getElem?_replicate]
  split <;> rfl

@[simp] theorem ser_length {m : Nat} (v : BitVec m) (w : Nat) (o : ByteOrder) : (ser v w o).length = w / 8 := by
  cases o <;> simp [ser]

@[simp] theorem padDigest_length (d : List Byte) : (padDigest d).length = 128 := by
  simp [padDigest, Config.digestBytes]

theorem padDigest_getD (d : List Byte) (k : Nat) (h : k < 128) : (padDigest d).getD k 0 = d.getD k 0 := by
  simp [padDigest, Config.digestBytes, List.getD_eq_getElem?_getD, h]

/-! ### The bits of the packed words -/

theorem getLsbD_pair (hi lo : Word) (i : Nat) :
    (pair hi lo).getLsbD i = if i < 32 then lo.getLsbD i else hi.getLsbD (i - 32) :=
  BitVec.getLsbD_append

theorem getLsbD_wordOfLanes (b0 b1 b2 b3 : Byte) (i : Nat) :
    (wordOfLanes b0 b1 b2 b3).getLsbD i
      = if i < 8 then b0.getLsbD i else if i < 16 then b1.getLsbD (i - 8) else if i < 24 then b2.getLsbD (i - 16)
        else b3.getLsbD (i - 24) := by
  refine (BitVec.getLsbD_append (x := b3 ++ b2 ++ b1) (y := b0)).trans ?_
  split; · rfl
  rw [BitVec.getLsbD_append, BitVec.getLsbD_append]
  split_ifs <;> first | rfl | omega

theorem getLsbD_mask (w i : Nat) (h : w ≤ 64) : (mask w).getLsbD i = decide (i < w) := by
  unfold mask
  rw [BitVec.getLsbD_ofNat, Nat.testBit_two_pow_sub_one]
  by_cases hi : i < w
  · simp [hi, show i < 64 by omega]
  · simp [hi]

/-! ### What every command does -/

/-- Every command answers a next state, in every state (R68, R188), and leaves the host's side of the bus. -/
theorem exec_next (i : Instr) (s : State) : ∃ t : State, exec i s = .next t ∧ SameBus s t := by
  have raised (c : ErrorCode) (a : ErrorArg) (w : Word) : SameBus s (raiseError c a w s) :=
    (raiseError_sameButError c a w s).bus
  cases i with
  | nop => exact ⟨s, rfl, .refl s⟩
  | configure =>
    simp only [exec, execConfigure]
    split
    · exact ⟨_, rfl, by constructor <;> simp⟩
    · exact ⟨_, rfl, (latchConfig_spec s).2.2.2.2⟩
  | start =>
    simp only [exec, execStart]
    split
    · exact ⟨_, rfl, raised ..⟩
    · exact ⟨_, rfl, (openMessage_spec s).2.2.2.2⟩
    · exact ⟨_, rfl, (openMessage_spec s).2.2.2.2⟩
  | feedImm b =>
    simp only [exec, execFeedImm]
    split
    · exact ⟨_, rfl, (absorb_spec s b).2.2.2.2⟩
    · exact ⟨_, rfl, raised ..⟩
  | feedData n =>
    simp only [exec, execFeedData]
    split
    · exact ⟨_, rfl, (absorbAll_frame s _).2.2.2⟩
    · exact ⟨_, rfl, raised ..⟩
  | final =>
    simp only [exec, execFinal]
    split
    · exact ⟨_, rfl, ⟨rfl, rfl⟩⟩
    · exact ⟨_, rfl, raised ..⟩
  | clearErr => exact ⟨_, rfl, ⟨rfl, rfl⟩⟩
  | softReset => exact ⟨_, rfl, ⟨rfl, rfl⟩⟩

theorem raiseError_withBus (c : ErrorCode) (a : ErrorArg) (w : Word) (s : State) (p : List BusEvent) (r : List Response) :
    raiseError c a w { s with pending := p, responses := r }
      = { raiseError c a w s with pending := p, responses := r } := by
  unfold raiseError; dsimp only; split <;> rfl

theorem absorb_withBus (s : State) (b : Byte) (p : List BusEvent) (r : List Response) :
    absorb { s with pending := p, responses := r } b = { absorb s b with pending := p, responses := r } := by
  unfold absorb; dsimp only; split <;> rfl

theorem absorbAll_withBus (s : State) (m : List Byte) (p : List BusEvent) (r : List Response) :
    absorbAll { s with pending := p, responses := r } m = { absorbAll s m with pending := p, responses := r } := by
  induction m generalizing s with
  | nil => rfl
  | cons b m ih => rw [absorbAll_cons, absorb_withBus, ih]; rfl

/-- No command looks at the host's side of the bus: with another bus it does the same. -/
theorem exec_withBus {i : Instr} {s t : State} (h : exec i s = .next t) (p : List BusEvent) (r : List Response) :
    exec i { s with pending := p, responses := r } = .next { t with pending := p, responses := r } := by
  cases i with
  | nop => cases h; rfl
  | configure =>
    simp only [exec, execConfigure] at h ⊢
    rw [show configureCheck { s with pending := p, responses := r } = configureCheck s from rfl]
    split at h <;> cases h
    · rw [raiseError_withBus]; rfl
    · rfl
  | start =>
    simp only [exec, execStart] at h ⊢
    split at h <;> cases h
    · rw [raiseError_withBus]
    · unfold openMessage; dsimp only; split <;> rfl
    · unfold openMessage; dsimp only; split <;> rfl
  | feedImm b =>
    simp only [exec, execFeedImm] at h ⊢
    split at h <;> rename_i hr <;> cases h
    · rw [if_pos hr, absorb_withBus]
    · rw [if_neg hr, raiseError_withBus]
  | feedData n =>
    simp only [exec, execFeedData] at h ⊢
    split at h <;> rename_i hr <;> cases h
    · rw [if_pos hr, absorbAll_withBus]
    · rw [if_neg hr, raiseError_withBus]
  | final =>
    simp only [exec, execFinal] at h ⊢
    split at h <;> rename_i hr <;> cases h
    · rw [if_pos hr]; rfl
    · rw [if_neg hr, raiseError_withBus]
  | clearErr => cases h; rfl
  | softReset => cases h; rfl

/-! ### The bus -/

theorem acceptsAccess_iff (size : AccessSize) (offset : BitVec 12) :
    acceptsAccess size offset = true ↔ size = .word ∧ offset.toNat % 4 = 0 := by
  simp [acceptsAccess]

theorem stepOn_nil (effect : BusErrorEffect) (s : State) (h : s.pending = []) : stepOn effect s = .next s := by
  simp [stepOn, h]

theorem stepOn_cons (effect : BusErrorEffect) (s : State) (e : BusEvent) (rest : List BusEvent)
    (h : s.pending = e :: rest) : stepOn effect s = handleEvent effect e { s with pending := rest } := by
  simp [stepOn, h]

@[simp] theorem regAt_cmd : regAt 0x008 = .cmd := by decide

/-- A write at CMD's offset is a command (R64). -/
theorem writeWord_cmd (w : Word) (s : State) : writeWord 0x008 w s = issueCommand w s := by
  unfold writeWord; rw [regAt_cmd]

/-- A write at another register's offset is a register write (R64). -/
theorem writeWord_reg (offset : BitVec 12) (w : Word) (s : State) (h : regAt offset ≠ .cmd) :
    writeWord offset w s = .next (writeReg s (regAt offset) w) := by
  unfold writeWord; split <;> first | contradiction | rfl

/-- A write of word `w` to CMD, delivered by the bus. -/
theorem stepOn_cmd (effect : BusErrorEffect) (s : State) (w : Word) (rest : List BusEvent)
    (h : s.pending = .write .word 0x008 w :: rest) :
    stepOn effect s = issueCommand w (respond .writeDone { s with pending := rest }) := by
  rw [stepOn_cons _ _ _ _ h]; exact writeWord_cmd w _

/-- What every register reads is a function of the block's state alone (R46, R69). -/
theorem readReg_of_sameBlock {s t : State} (h : SameBlock s t) (r : Reg) : readReg t r = readReg s r := by
  obtain ⟨he, ⟨⟩, ⟨⟩, ⟨⟩, ⟨⟩, ⟨⟩⟩ := h
  cases r <;> simp [readReg, statusWord, digestByte, visibleEntry, tableVisible, *]

/-- A register write changes the staging registers and DATA at most. -/
theorem writeReg_frame (s : State) (r : Reg) (v : Word) :
    (writeReg s r v).engine = s.engine ∧ SameActive s (writeReg s r v) ∧ SameWorking s (writeReg s r v)
      ∧ SameDigest s (writeReg s r v) ∧ SameError s (writeReg s r v) ∧ SameBus s (writeReg s r v) := by
  cases r <;> exact ⟨rfl, ⟨rfl, rfl, rfl, rfl, rfl, rfl, rfl⟩, ⟨rfl, rfl, rfl⟩, ⟨rfl, rfl, rfl⟩, ⟨rfl, rfl, rfl, rfl, rfl⟩,
    ⟨rfl, rfl⟩⟩

end Sys2Proof.Machine
end

