-- ==== Sys2Proof/Laws/PerInstr.lean ====
section
/-! SUPPORT. Per instruction: the encoding of a well-formed command carries the OPCODE of its row, in the order of the opcode map
(30_encoding.md R83). -/

namespace Sys2Proof.Laws.EncodedOpcode

/-- The place of a command's row in the opcode map, which is its OPCODE (R83). -/
def rowIndex : Instr → Nat
  | .nop => 0
  | .configure => 1
  | .start => 2
  | .feedImm _ => 3
  | .feedData _ => 4
  | .final => 5
  | .clearErr => 6
  | .softReset => 7

/-- The encoded word's OPCODE is the row's place, and the row there is the command's. -/
def Statement (i : Instr) : Prop :=
  i.wellFormed = true →
    (opcodeField (encode i)).toNat = rowIndex i ∧ (opcodeMap.map OpcodeRow.mnemonic)[rowIndex i]? = some (mnemonicOf i)

theorem nop : Statement .nop := fun _ => ⟨by simp [encode, rowIndex], rfl⟩

theorem configure : Statement .configure := fun _ => ⟨by simp [encode, rowIndex], rfl⟩

theorem start : Statement .start := fun _ => ⟨by simp [encode, rowIndex], rfl⟩

theorem feedImm (byte : Byte) : Statement (.feedImm byte) := fun _ => ⟨by simp [encode, rowIndex], rfl⟩

theorem feedData (n : Nat) : Statement (.feedData n) := fun _ => ⟨by simp [encode, rowIndex], rfl⟩

theorem final : Statement .final := fun _ => ⟨by simp [encode, rowIndex], rfl⟩

theorem clearErr : Statement .clearErr := fun _ => ⟨by simp [encode, rowIndex], rfl⟩

theorem softReset : Statement .softReset := fun _ => ⟨by simp [encode, rowIndex], rfl⟩

end Sys2Proof.Laws.EncodedOpcode
end

