-- ==== Sys2Proof/Tests/Slice0.lean ====
section
/-! SUPPORT. The model's own tests, each on one step, with expected values from spec/95_test_vectors.md or worked out by hand from
the rule named; and the witnesses that the hypotheses of the claims can be met. -/

namespace Sys2Proof.Tests

open Sys2Proof.Machine

/-! ### Small states -/

/-- CRC-8 with P = 0x07 (V-CRC-09), its message open and empty, DATA holding "1234". -/
def crc8 : State :=
  { State.reset with
    engine := .ready, acfg := { Cfg.zero with crcWidth := 8 }, aW := 8, aPoly := 7, tvalid := true
    table := crcTable 8 7, data := 0x34333231 }

/-- FNV-32 (V-FNV-01), its message open and empty, DATA holding "ab". -/
def fnv32 : State :=
  { State.reset with
    engine := .ready, acfg := { Cfg.zero with alg := .fnv }, aW := 32, fnvH := fnvStart 32, data := 0x00006261 }

/-- FNV-64 (V-SRC-02), its message open and empty. -/
def fnv64 : State :=
  { State.reset with
    engine := .ready, acfg := { Cfg.zero with alg := .fnv, fnvWsel := 1 }, aW := 64, fnvH := fnvStart 64 }

/-- The CRC-16 configuration of V-SRC-03, with output reflection, and the register at INIT = 0x1234. -/
def crc16 : State :=
  { State.reset with
    engine := .ready, acfg := { Cfg.zero with refout := true, crcWidth := 16 }, aW := 16, aPoly := 0x1021, aInit := 0x1234
    tvalid := true, crcR := 0x1234 }

/-- The staging registers of V-CRC-01's row W = 64, nothing configured. -/
def staged64 : State :=
  { State.reset with cfg := { Cfg.zero with crcWidth := 64 }, polyHi := 0x42F0E1EB, polyLo := 0xA9EA3693 }

/-- A configured FNV-32 engine with no message. -/
def fnv32Idle : State := { fnv32 with engine := .tableBuilt, fnvH := 0 }

/-- What a register reads in the next state of an outcome. -/
def readAfter (o : Host.Outcome State Fault Refusal) (r : Reg) : Option Word :=
  match o with
  | .next t => some (readReg t r)
  | .fault _ => none
  | .refused _ => none

/-! ### Well-formedness and decoding -/

theorem test_feedData_zero_is_ill_formed : (Instr.feedData 0).wellFormed = false := by decide

theorem test_feedData_five_is_ill_formed : (Instr.feedData 5).wellFormed = false := by decide

theorem test_feedData_four_is_well_formed : (Instr.feedData 4).wellFormed = true := by decide

theorem test_decode_nop : decode 0b00000000000000000000000000000000 = .ok .nop := by decide

theorem test_decode_configure : decode 0b00000001000000000000000000000000 = .ok .configure := by decide

theorem test_decode_start : decode 0b00000010000000000000000000000000 = .ok .start := by decide

theorem test_decode_feedImm : decode 0b00000011000000000000000010100001 = .ok (.feedImm 0xA1) := by decide

theorem test_decode_feedData : decode 0b00000100000000000000000000000010 = .ok (.feedData 3) := by decide

theorem test_decode_final : decode 0b00000101000000000000000000000000 = .ok .final := by decide

theorem test_decode_clearErr : decode 0b00000110000000000000000000000000 = .ok .clearErr := by decide

theorem test_decode_softReset : decode 0b00000111000000000000000000000000 = .ok .softReset := by decide

/-- V-CMD-05: words that match no row. -/
theorem test_decode_rejects :
    decode 0x00000001 = .error (.reservedBits 0x00) ∧ decode 0x03000100 = .error (.reservedBits 0x03)
      ∧ decode 0x04000004 = .error (.reservedBits 0x04) ∧ decode 0x07800000 = .error (.reservedBits 0x07)
      ∧ decode 0x08000000 = .error (.unknownOpcode 0x08) ∧ decode 0xFF000000 = .error (.unknownOpcode 0xFF) := by decide

theorem test_decodeTableWord : decodeTableWord 32 0x04000003 = some (.feedData 4) := by decide

/-! ### The commands, one step each -/

/-- R140. -/
theorem test_nop_keeps_data : readAfter (exec .nop crc8) .data = some 0x34333231 := by decide

/-- V-CMD-02. -/
theorem test_configure_after_reset_fails : readAfter (exec .configure State.reset) .status = some 0x00004208 := by decide

/-- V-CRC-01, the high word of T[1] at W = 64. -/
theorem test_configure_builds_the_table : readAfter (exec .configure staged64) (.crctabHi 1) = some 0x42F0E1EB := by
  decide +kernel

/-- V-CMD-04. -/
theorem test_start_unconfigured_is_bad_state : readAfter (exec .start State.reset) .status = some 0x00000508 := by decide

/-- R144 on a configured engine: STATE = 2. -/
theorem test_start_opens_a_message : readAfter (exec .start fnv32Idle) .status = some 0x00000002 := by decide

/-- V-CRC-09: the register becomes T[0x31] = 0x97. -/
theorem test_feedImm_crc8 :
    (match exec (.feedImm 0x31) crc8 with | .next t => t.crcR | .fault _ => 0 | .refused _ => 0) = 0x97 := by
  decide +kernel

/-- V-CMD-04: with no message open, STATUS = 0x00000509. -/
theorem test_feedImm_needs_a_message : readAfter (exec (.feedImm 0x00) fnv32Idle) .status = some 0x00000509 := by decide

/-- V-FNV-07: FNV-32("ab") = 0x4D2505CA. -/
theorem test_feedData_fnv32 :
    (match exec (.feedData 2) fnv32 with | .next t => t.fnvH | .fault _ => 0 | .refused _ => 0) = 0x4D2505CA := by
  decide +kernel

/-- V-CMD-04: ERRINFO holds the word 0x04000003. -/
theorem test_feedData_error_word : readAfter (exec (.feedData 4) fnv32Idle) .errInfo = some 0x04000003 := by decide

/-- V-SRC-02: the first digest word of the empty FNV-64 message. -/
theorem test_final_fnv64 : readAfter (exec .final fnv64) (.digest 0) = some 0xE49CF2CB := by decide +kernel

/-- V-SRC-03: output reflection applies to the empty register; the digest is 0x2C, 0x48. -/
theorem test_final_crc16_reflects : readAfter (exec .final crc16) (.digest 0) = some 0x0000482C := by decide +kernel

/-- V-CMD-09: STATUS = 0x00004218 before. -/
theorem test_clearErr_clears :
    readAfter (exec .clearErr { State.reset with err := true, errOvf := true, errCode := .badCrcWidth, errArg := .crcWidth })
      .status = some 0x00000000 := by decide

/-- V-CMD-13. -/
theorem test_softReset_clears_cfg : readAfter (exec .softReset staged64) .cfg = some 0x00000000 := by decide

/-! ### The bus -/

/-- V-BUS-01: a write of ones to CFG stores its writable bits. -/
theorem test_cfg_stores_its_writable_bits : readReg (writeReg State.reset .cfg 0xFFFFFFFF) .cfg = 0x00007F7F := by decide

/-- V-BUS-02: a byte write gets a bus error. -/
theorem test_byte_write_is_a_bus_error :
    (match step { State.reset with pending := [.write .byte 0x010 0x01] } with
      | .fault (.busError _) => true | .next _ => false | .refused _ => false) = true := by decide

/-- V-CMD-05: an illegal word, delivered by the bus. -/
theorem test_illegal_word_status :
    readAfter (step { State.reset with pending := [memWrite 0x008 0x08000000] }) .status = some 0x00000108 := by decide

/-- The next step runs the word that `withFetchWord` places. -/
theorem test_withFetchWord_runs_the_word :
    readAfter (step (State.reset.withFetchWord 32 0x02000000)) .errInfo = some 0x02000000 := by decide

/-! ### Witnesses: the hypotheses of the claims can be met -/

theorem witness_wellFormed : (Instr.feedData 1).wellFormed = true ∧ (Instr.feedData 4).wellFormed = true := by decide

theorem witness_legal_word : decode (encode (.feedImm 0xFF)) = .ok (.feedImm 0xFF) := by decide

theorem witness_command_on_the_bus :
    { crc8 with pending := [.write .word 0x008 0x04000003] }.pending = BusEvent.write .word 0x008 0x04000003 :: []
      ∧ decode 0x04000003 = .ok (.feedData 4) := by decide

/-- A word of each OPCODE that has operand bits to reserve, with one of them set. -/
theorem witness_illegal_words :
    { crc8 with pending := [.write .word 0x008 0x03000100] }.pending = BusEvent.write .word 0x008 0x03000100 :: []
      ∧ (∀ r ∈ opcodeMap, rowMatches r 0x03000100 = false)
      ∧ (0x03000100 : Word).extractLsb' 24 8 = 0x03 ∧ (0x03000100 : Word).extractLsb' 8 16 ≠ 0
      ∧ (0x04000004 : Word).extractLsb' 24 8 = 0x04 ∧ (0x04000004 : Word).extractLsb' 2 22 ≠ 0
      ∧ (0x00800000 : Word).extractLsb' 24 8 = 0x00 ∧ (0x00800000 : Word) ≠ 0 := by decide

theorem witness_safe_bus : SafeBus { crc8 with pending := [memRead 0xFFC, memWrite 0x010 5, .reset] } := by
  unfold SafeBus; decide

/-- A read of another size, and a write at the last misaligned offset. -/
theorem witness_bad_accesses :
    (AccessSize.byte ≠ .word ∨ (0x010 : BitVec 12).toNat % 4 ≠ 0)
      ∧ (AccessSize.word ≠ .word ∨ (0xFFF : BitVec 12).toNat % 4 ≠ 0)
      ∧ { crc8 with pending := [.read .byte 0x010] }.pending = BusEvent.read .byte 0x010 :: []
      ∧ { crc8 with pending := [.write .word 0xFFF 7] }.pending = BusEvent.write .word 0xFFF 7 :: [] := by decide

theorem witness_read_on_the_bus :
    { crc8 with pending := [.read .word 0xFFC] }.pending = BusEvent.read .word 0xFFC :: []
      ∧ (0xFFC : BitVec 12).toNat % 4 = 0 := by decide

/-- The three kinds of written register: read-write, CFG, and read-only at the window's last word. -/
theorem witness_register_writes :
    { crc8 with pending := [.write .word 0x02C 7] }.pending = BusEvent.write .word 0x02C 7 :: []
      ∧ (0x02C : BitVec 12).toNat % 4 = 0 ∧ (0x02C : BitVec 12) ≠ 0x008
      ∧ (0x010 : BitVec 12).toNat % 4 = 0 ∧ (0x010 : BitVec 12) ≠ 0x008 ∧ (0x010 : BitVec 12) ∉ [0x00C, 0x018, 0x02C]
      ∧ (0xFFC : BitVec 12).toNat % 4 = 0 ∧ (0xFFC : BitVec 12) ≠ 0x008 := by decide

theorem witness_step_answers : ∃ t : State, stepOn .proceed { crc8 with pending := [.read .byte 0x010] } = .next t :=
  ⟨_, rfl⟩

theorem witness_reset_on_the_bus : { crc8 with pending := [.reset] }.pending = BusEvent.reset :: [] := rfl

theorem witness_named_register :
    Reg.crctabHi 255 ≠ .reserved ∧ regAt 0x07C = .reserved ∧ regAt 0x100 = .reserved
      ∧ ((0x03C : BitVec 12), Reg.msglenHi) ∈ [((0x000 : BitVec 12), Reg.id), (0x03C, .msglenHi)] := by decide

theorem witness_crcActive : CrcActive crc8 := ⟨by decide, by decide⟩

theorem witness_not_crcActive : ¬ CrcActive fnv32 := fun h => absurd h.2 (by decide)

theorem witness_fnvActive : FnvActive fnv32 := ⟨by decide, by decide⟩

/-- The widest CRC with every parameter at its largest value passes (V-CMD-03). -/
theorem witness_configPasses_crc :
    ConfigPasses
      { staged64 with
        polyHi := 0xFFFFFFFF, polyLo := 0xFFFFFFFF, initHi := 0xFFFFFFFF, initLo := 0xFFFFFFFF, xoroutHi := 0xFFFFFFFF
        xoroutLo := 0xFFFFFFFF } :=
  .crc (by decide) (by decide) (by decide) (by decide) (by decide)

theorem witness_configPasses_fnv : ConfigPasses { crc8 with cfg := { Cfg.zero with alg := .fnv, fnvWsel := 5 } } :=
  .fnv (by decide) (by decide)

theorem witness_firstFailure_crcWidth : FirstFailure State.reset .badCrcWidth .crcWidth := .crcWidth (by decide) (by decide)

theorem witness_firstFailure_poly :
    FirstFailure { crc8 with cfg := { Cfg.zero with crcWidth := 16 }, polyLo := 0x10000 } .paramRange .poly :=
  .poly (by decide) (by decide) (by decide)

theorem witness_firstFailure_init :
    FirstFailure { crc8 with cfg := { Cfg.zero with crcWidth := 8 }, polyLo := 0xFF, initLo := 0x100 } .paramRange .init :=
  .init (by decide) (by decide) (by decide) (by decide)

theorem witness_firstFailure_xorout :
    FirstFailure { crc8 with cfg := { Cfg.zero with crcWidth := 8 }, initLo := 0xFF, xoroutLo := 0x100 } .paramRange
      .xorout :=
  .xorout (by decide) (by decide) (by decide) (by decide) (by decide)

theorem witness_firstFailure_fnvWidth :
    FirstFailure { crc8 with cfg := { Cfg.zero with alg := .fnv, fnvWsel := 6 } } .badFnvWidth .fnvWsel :=
  .fnvWidth (by decide) (by decide)

theorem witness_engine_states :
    crc8.engine = .ready ∧ fnv32.engine = .ready ∧ fnv32Idle.engine ≠ .uninitialized ∧ fnv32Idle.engine ≠ .ready
      ∧ staged64.engine = .uninitialized := by decide

theorem witness_algorithms :
    crc8.acfg.alg = .crc ∧ fnv32.acfg.alg = .fnv ∧ crc8.acfg.order = .bigEndian
      ∧ { crc8 with acfg := { crc8.acfg with order := .littleEndian } }.acfg.order = .littleEndian := by decide

theorem witness_feed_counts : (1 ≤ 1 ∧ 1 ≤ 4) ∧ 1 ≤ 4 ∧ 4 ≤ 4 := by decide

/-- Digest bytes inside and past the digest, at its last byte and at the buffer's. -/
theorem witness_digest_bytes :
    0 < crc8.aW.toNat / 8 ∧ 3 < fnv32.aW.toNat / 8 ∧ crc8.aW.toNat / 8 ≤ 127 ∧ 127 < 128 := by decide

theorem witness_stable_digest :
    ∃ t : State, exec .final { crc8 with pending := [memRead 0x080, memWrite 0x010 5, memWrite 0x008 0x05000000, .reset] }
        = .next t
      ∧ t.pending = [memRead 0x080, memWrite 0x010 5, memWrite 0x008 0x05000000] ++ [.reset]
      ∧ ∀ e ∈ [memRead 0x080, memWrite 0x010 5, memWrite 0x008 0x05000000], keepsDigest e = true :=
  ⟨_, rfl, rfl, by decide⟩

theorem witness_final_answers : ∃ t : State, exec .final crc8 = .next t := ⟨_, rfl⟩

theorem crc8_configured : CrcConfigured crc8 where
  width := by decide
  latched := by decide
  poly := by decide
  init := by decide
  xorout := by decide
  tvalid := rfl
  entries b := tableAt_crcTable 8 7 b
  below b := by
    rw [show tableAt crc8.table b = crcTableEntry 8 7 b from tableAt_crcTable 8 7 b]
    revert b; decide +kernel

theorem fnv32_configured : FnvConfigured fnv32 where
  width := by decide
  tvalid := rfl
  table := rfl

/-- "1234" from DATA, then one byte, then two bytes of a new DATA. -/
theorem witness_feeds :
    Feeds crc8.data
      [commandEvent (.feedData 4), commandEvent (.feedImm 0x35), memWrite (regOffset .data) 0x3736, commandEvent (.feedData 2)]
      (dataBytes crc8.data 4 ++ (0x35 :: (dataBytes 0x3736 2 ++ []))) :=
  .data 4 (by decide) (by decide) (.imm 0x35 (.write 0x3736 (.data 2 (by decide) (by decide) (.done _))))

theorem witness_message_on_the_bus :
    { crc8 with pending := [commandEvent .start, commandEvent (.feedData 4), commandEvent .final, .reset] }.pending
      = commandEvent .start :: [commandEvent (.feedData 4)] ++ commandEvent .final :: [.reset] := rfl

theorem witness_compute_crc : CrcActive crc8 ∧ CrcConfigured crc8 := ⟨witness_crcActive, crc8_configured⟩

theorem witness_compute_fnv : FnvActive fnv32 ∧ FnvConfigured fnv32 := ⟨witness_fnvActive, fnv32_configured⟩

theorem witness_data_write_then_feed :
    { crc8 with pending := [memWrite 0x00C 9, memWrite 0x008 (0x04000000 + BitVec.ofNat 32 (4 - 1))] }.pending
      = memWrite 0x00C 9 :: memWrite 0x008 (0x04000000 + BitVec.ofNat 32 (4 - 1)) :: [] := rfl

theorem witness_final_then_read :
    { crc8 with pending := [memWrite 0x008 0x05000000, memRead (BitVec.ofNat 12 (0x080 + 4 * (31 : Fin 32).val))] }.pending
      = memWrite 0x008 0x05000000 :: memRead (BitVec.ofNat 12 (0x080 + 4 * (31 : Fin 32).val)) :: [] := rfl

theorem witness_configure_then_read :
    ConfigPasses staged64 ∧ staged64.cfg.alg = .crc
      ∧ { staged64 with
          pending := [memWrite 0x008 0x01000000, memRead (BitVec.ofNat 12 (0x800 + 8 * (255 : Byte).toNat)),
            memRead (BitVec.ofNat 12 (0x804 + 8 * (255 : Byte).toNat))] }.pending
        = memWrite 0x008 0x01000000 :: memRead (BitVec.ofNat 12 (0x800 + 8 * (255 : Byte).toNat)) ::
            memRead (BitVec.ofNat 12 (0x804 + 8 * (255 : Byte).toNat)) :: [] :=
  ⟨.crc (by decide) (by decide) (by decide) (by decide) (by decide), by decide, rfl⟩

theorem witness_wr64_on_the_bus :
    { crc8 with pending := lineEvents (.wr64 .poly 7) ++ [BusEvent.reset] }.pending
      = lineEvents (.wr64 .poly 7) ++ [BusEvent.reset] := rfl

theorem witness_crc_line_width : 64 < 128 := by decide

theorem witness_reflect : (1 ≤ 8 ∧ 8 ≤ 64) ∧ 64 ≤ 64 ∧ (0x31 : Word64).toNat < 2 ^ 8 := by decide

theorem witness_table_parameters :
    legalCrcWidth 8 = true ∧ (0xFF : Word64).toNat < 2 ^ 8 ∧ legalCrcWidth 64 = true
      ∧ (0xFFFFFFFFFFFFFFFF : Word64).toNat < 2 ^ 64 := by decide

theorem witness_fnv_widths :
    32 ∈ [32, 64, 128, 256, 512, 1024] ∧ 1024 ∈ [32, 64, 128, 256, 512, 1024]
      ∧ (0xFFFFFFFF : Word1024).toNat < 2 ^ 32
      ∧ (1024, 680, 0x8D) ∈ [(32, 24, 0x93), (64, 40, 0xB3), (128, 88, 0x3B), (256, 168, 0x63), (512, 344, 0x57), (1024, 680, 0x8D)] := by
  decide +kernel

/-- Two FNV engines that differ in every parameter FNV ignores and in the error state. -/
theorem witness_fnvAlike :
    FnvAlike fnv32
      { fnv32 with
        acfg := { fnv32.acfg with refin := true, refout := true, order := .littleEndian, crcWidth := 12 }
        aPoly := 7, aInit := 8, aXorout := 9, err := true, errCode := .badState } :=
  ⟨rfl, rfl, rfl, rfl, rfl, rfl, rfl, ⟨rfl, rfl, rfl⟩⟩

/-- The invariant holds with a CRC message open, in a state that is not the reset state. -/
theorem witness_inv : Inv crc8 where
  unconfigured h := absurd h (by decide)
  built h := absurd h (by decide)
  crcConfigured _ := crc8_configured
  fnvConfigured h := absurd h.2 (by decide)
  crcOpen _ _ := ⟨[], rfl, rfl⟩
  fnvOpen _ h := absurd h (by decide)
  crcBelow _ := by decide
  fnvBelow h := absurd h.2 (by decide)
  crcIdle _ := rfl
  fnvIdle _ := rfl
  digestOpen h := absurd h (by decide)
  digestEmpty _ := ⟨rfl, rfl, rfl⟩
  digestHeld h := absurd h (by decide)
  dbufLength := emptyDbuf_length
  tableLength := crcTable_length 8 7
  errorClear _ := ⟨rfl, rfl, rfl, rfl⟩
  errorSet h := absurd h (by decide)

/-- The invariant holds with nothing configured, in a state that is not the reset state. -/
theorem witness_inv_unconfigured :
    Inv { State.reset with data := 7 } ∧ { State.reset with data := 7 }.engine = .uninitialized :=
  ⟨{ unconfigured := fun _ => ⟨⟨rfl, rfl, rfl, rfl, rfl, rfl, rfl⟩, ⟨rfl, rfl, rfl⟩, rfl⟩
     built := fun h => absurd h (by decide)
     crcConfigured := fun h => absurd h.1 (by decide)
     fnvConfigured := fun h => absurd h.1 (by decide)
     crcOpen := fun h => absurd h (by decide)
     fnvOpen := fun h => absurd h (by decide)
     crcBelow := fun h => absurd h.1 (by decide)
     fnvBelow := fun h => absurd h.1 (by decide)
     crcIdle := fun _ => rfl
     fnvIdle := fun _ => rfl
     digestOpen := fun h => absurd h (by decide)
     digestEmpty := fun _ => ⟨rfl, rfl, rfl⟩
     digestHeld := fun h => absurd h (by decide)
     dbufLength := emptyDbuf_length
     tableLength := emptyTable_length
     errorClear := fun _ => ⟨rfl, rfl, rfl, rfl⟩
     errorSet := fun h => absurd h (by decide) }, rfl⟩

theorem witness_inv_step : ∃ t : State, stepOn .abort { crc8 with pending := [memWrite 0x010 5] } = .next t := ⟨_, rfl⟩

/-- Every flag changes both ways somewhere. -/
theorem witness_flags_change :
    (∃ t : State, exec .start fnv32Idle = .next t ∧ t.engine ≠ fnv32Idle.engine)
      ∧ (∃ t : State, exec .final crc8 = .next t ∧ crc8.dvalid = false ∧ t.dvalid = true)
      ∧ (∃ t : State, exec (.feedImm 0) { crc8 with dvalid := true } = .next t ∧ t.dvalid = false)
      ∧ (∃ t : State, exec .clearErr { crc8 with err := true, errOvf := true } = .next t
          ∧ t.err = false ∧ t.errOvf = false)
      ∧ (∃ t : State, exec .start State.reset = .next t ∧ State.reset.err = false ∧ t.err = true)
      ∧ ∃ t : State, exec .start { State.reset with err := true } = .next t ∧ t.errOvf = true :=
  ⟨⟨_, rfl, by decide⟩, ⟨_, rfl, rfl, rfl⟩, ⟨_, rfl, rfl⟩, ⟨_, rfl, rfl, rfl⟩, ⟨_, rfl, rfl, rfl⟩, ⟨_, rfl, rfl⟩⟩

theorem witness_sameButError : SameButError crc8 { crc8 with err := true, errCode := .badState, errOvf := true } :=
  ⟨rfl, ⟨rfl, rfl, rfl, rfl, rfl, rfl, rfl, rfl⟩, ⟨rfl, rfl, rfl, rfl, rfl, rfl, rfl⟩, ⟨rfl, rfl, rfl⟩, ⟨rfl, rfl, rfl⟩, ⟨rfl, rfl⟩⟩

theorem witness_failing_command :
    ∃ t : State, exec (.feedImm 0) fnv32Idle = .next t ∧ Instr.feedImm 0 ≠ .configure ∧ Instr.feedImm 0 ≠ .clearErr
      ∧ Instr.feedImm 0 ≠ .softReset := ⟨_, rfl, by decide, by decide, by decide⟩

theorem witness_staging_write :
    Reg.xoroutHi ∈ [Reg.cfg, .polyLo, .polyHi, .initLo, .initHi, .xoroutLo, .xoroutHi] ∧ Instr.final ≠ .configure
      ∧ Instr.final ≠ .softReset := by decide

/-- A master that feeds a byte and reads the length, and one that reads STATUS before and after. -/
def twoMasters : List (Master × BusEvent) :=
  [(.second, memRead 0x004), (.first, commandEvent (.feedImm 0x31)), (.second, memRead 0x004), (.first, memRead 0x038)]

theorem witness_two_masters :
    (∀ e ∈ issuedBy .second twoMasters, isRead e = true ∧ accepted e = true)
      ∧ ∃ t : State, run (issuedBy .first twoMasters).length { crc8 with pending := issuedBy .first twoMasters } = .next t :=
  ⟨by decide, ⟨_, rfl⟩⟩

theorem witness_a_step_answers :
    (∃ t : State, step { crc8 with pending := [memRead 0x004] } = .next t) ∧ memRead 0x004 ≠ .reset
      ∧ ∃ t : State, step { crc8 with pending := [.reset] } = .next t := ⟨⟨_, rfl⟩, by decide, ⟨_, rfl⟩⟩

theorem witness_configuration_registers :
    (Reg.cfg, crc8.cfg) ∈ [(Reg.cfg, crc8.cfg), (Reg.acfg, crc8.acfg)]
      ∧ (Reg.acfg, crc8.acfg) ∈ [(Reg.cfg, crc8.cfg), (Reg.acfg, crc8.acfg)] := by decide

theorem witness_fnv_line_widths :
    (32, 0) ∈ [(32, (0 : BitVec 3)), (64, 1), (128, 2), (256, 3), (512, 4), (1024, 5)]
      ∧ (1024, 5) ∈ [(32, (0 : BitVec 3)), (64, 1), (128, 2), (256, 3), (512, 4), (1024, 5)] := by decide

/-- 30_encoding.md R88 with 10_state.md R29: `cfg.fnv W=64` writes 0x00000011 to CFG. -/
theorem test_cfg_fnv_line : lineEvents (.cfgFnv 64) = [memWrite 0x010 0x00000011] := by decide

end Sys2Proof.Tests
end

section
/-! PROOF. `reflect` (00_scope.md R9), bit by bit. -/

namespace Sys2Proof.Machine

/-- The reversal `reflect` has built after the input bits below `k`: the first `k` turns of its loop. -/
def reflectPrefix {m : Nat} (v : BitVec m) (n k : Nat) : BitVec m :=
  (List.range k).foldl (fun acc i => if v.getLsbD i then acc ||| BitVec.twoPow m (n - 1 - i) else acc) 0

theorem reflect_eq_reflectPrefix {m : Nat} (v : BitVec m) (n : Nat) : reflect v n = reflectPrefix v n n := rfl

@[simp] theorem reflectPrefix_zero {m : Nat} (v : BitVec m) (n : Nat) : reflectPrefix v n 0 = 0 := rfl

theorem reflectPrefix_succ {m : Nat} (v : BitVec m) (n k : Nat) :
    reflectPrefix v n (k + 1)
      = if v.getLsbD k then reflectPrefix v n k ||| BitVec.twoPow m (n - 1 - k) else reflectPrefix v n k := by
  simp [reflectPrefix, List.range_succ]

/-- One turn of the loop copies input bit `k` to output bit `n - 1 - k` and touches no other. -/
theorem getLsbD_reflectPrefix_succ {m n k : Nat} (v : BitVec m) (hk : k < n) (hn : n ≤ m) (j : Nat) :
    (reflectPrefix v n (k + 1)).getLsbD j
      = ((reflectPrefix v n k).getLsbD j || (v.getLsbD k && decide (j = n - 1 - k))) := by
  have hin : n - 1 - k < m := by omega
  rw [reflectPrefix_succ]
  split
  · next hset => simp [hset, hin, eq_comm]
  · next hclear => simp [hclear]

/-- After `k` turns the top `k` of the `n` output bits are in place, and every other bit is still 0. -/
theorem getLsbD_reflectPrefix {m n k : Nat} (v : BitVec m) (hk : k ≤ n) (hn : n ≤ m) (j : Nat) :
    (reflectPrefix v n k).getLsbD j = (decide (n - k ≤ j ∧ j < n) && v.getLsbD (n - 1 - j)) := by
  induction k with
  | zero =>
    have hnone : ¬ (n - 0 ≤ j ∧ j < n) := by omega
    rw [decide_eq_false hnone]
    simp
  | succ k ih =>
    rw [getLsbD_reflectPrefix_succ v hk hn, ih (by omega)]
    by_cases hj : j = n - 1 - k
    · have hnew : n - (k + 1) ≤ j ∧ j < n := by omega
      have hold : ¬ (n - k ≤ j ∧ j < n) := by omega
      have hsource : n - 1 - j = k := by omega
      rw [decide_eq_true hnew, decide_eq_false hold, decide_eq_true hj, hsource]
      simp
    · have hsame : decide (n - (k + 1) ≤ j ∧ j < n) = decide (n - k ≤ j ∧ j < n) :=
        decide_eq_decide.mpr (by omega)
      rw [hsame, decide_eq_false hj]
      simp

/-- R9: within the storage width, `reflect` reverses the low `n` bits and clears the rest. -/
theorem getLsbD_reflect {m n : Nat} (v : BitVec m) (hn : n ≤ m) (j : Nat) :
    (reflect v n).getLsbD j = (decide (j < n) && v.getLsbD (n - 1 - j)) := by
  simp [reflect_eq_reflectPrefix, getLsbD_reflectPrefix v le_rfl hn]

/-- Settles O37: the loop of `reflect`, followed turn by turn. -/
theorem reflectReversesTheLowBits : Obligations.ReflectReversesTheLowBits :=
  fun _ _ v j hn => getLsbD_reflect v hn j

end Sys2Proof.Machine
end

section
/-! PROOF. What the eight commands can do, outcome by outcome: each command's rule of 42_commands_control.md and
43_commands_data.md, for any proof that splits on a command's outcome. -/

namespace Sys2Proof.Machine

/-- `ExecRule i s t`: one of the outcomes of command `i` leads from `s` to `t`. -/
inductive ExecRule : Instr → State → State → Prop
  | nop (s : State) : ExecRule .nop s s
  | configureFails {s : State} {c : ErrorCode} {a : ErrorArg} (failure : FirstFailure s c a) :
      ExecRule .configure s (discardConfig (raiseError c a (encode .configure) s))
  | configurePasses {s : State} (passes : ConfigPasses s) : ExecRule .configure s (latchConfig s)
  | startFails {s : State} (unconfigured : s.engine = .uninitialized) :
      ExecRule .start s (raiseError .badState .none (encode .start) s)
  | startOpens {s : State} (configured : s.engine ≠ .uninitialized) : ExecRule .start s (openMessage s)
  | feedImmFails {s : State} (b : Byte) (closed : s.engine ≠ .ready) :
      ExecRule (.feedImm b) s (raiseError .badState .none (encode (.feedImm b)) s)
  | feedImmAbsorbs {s : State} (b : Byte) (ready : s.engine = .ready) : ExecRule (.feedImm b) s (absorb s b)
  | feedDataFails {s : State} (n : Nat) (closed : s.engine ≠ .ready) :
      ExecRule (.feedData n) s (raiseError .badState .none (encode (.feedData n)) s)
  | feedDataAbsorbs {s : State} (n : Nat) (ready : s.engine = .ready) :
      ExecRule (.feedData n) s (absorbAll s (dataBytes s.data n))
  | finalFails {s : State} (closed : s.engine ≠ .ready) :
      ExecRule .final s (raiseError .badState .none (encode .final) s)
  | finalStores {s : State} (ready : s.engine = .ready) : ExecRule .final s (storeDigest s)
  | clearErr (s : State) : ExecRule .clearErr s (clearError s)
  | softReset (s : State) : ExecRule .softReset s (applyReset s)

theorem ExecRule.of_exec {i : Instr} {s t : State} (h : exec i s = .next t) : ExecRule i s t := by
  cases i with
  | nop => cases h; exact .nop s
  | configure =>
    simp only [exec, execConfigure] at h
    split at h <;> cases h
    next c a hc => exact .configureFails ((configureCheck_eq_some_iff s c a).1 hc)
    next hc => exact .configurePasses ((configureCheck_eq_none_iff s).1 hc)
  | start =>
    simp only [exec, execStart] at h
    split at h <;> cases h
    next he => exact .startFails he
    next he => exact .startOpens (by simp [he])
    next he => exact .startOpens (by simp [he])
  | feedImm b =>
    simp only [exec, execFeedImm] at h
    split at h <;> cases h
    next he => exact .feedImmAbsorbs b he
    next he => exact .feedImmFails b he
  | feedData n =>
    simp only [exec, execFeedData] at h
    split at h <;> cases h
    next he => exact .feedDataAbsorbs n he
    next he => exact .feedDataFails n he
  | final =>
    simp only [exec, execFinal] at h
    split at h <;> cases h
    next he => exact .finalStores he
    next he => exact .finalFails he
  | clearErr => cases h; exact .clearErr s
  | softReset => cases h; exact .softReset s

theorem ExecRule.exec_eq {i : Instr} {s t : State} (h : ExecRule i s t) : exec i s = .next t := by
  cases h with
  | nop | clearErr | softReset => rfl
  | configureFails failure => simp only [exec, execConfigure, (configureCheck_eq_some_iff _ _ _).2 failure]
  | configurePasses passes => simp only [exec, execConfigure, (configureCheck_eq_none_iff _).2 passes]
  | startFails unconfigured => simp only [exec, execStart, unconfigured]
  | startOpens configured =>
    simp only [exec, execStart]
    split
    · contradiction
    · rfl
    · rfl
  | feedImmFails _ closed => exact if_neg closed
  | feedImmAbsorbs _ ready => exact if_pos ready
  | feedDataFails _ closed => exact if_neg closed
  | feedDataAbsorbs _ ready => exact if_pos ready
  | finalFails closed => exact if_neg closed
  | finalStores ready => exact if_pos ready

/-- The rules say all that `exec` does, and no more. -/
theorem exec_eq_next_iff {i : Instr} {s t : State} : exec i s = .next t ↔ ExecRule i s t :=
  ⟨ExecRule.of_exec, ExecRule.exec_eq⟩

/-- A failed CONFIGURE raises an error that names its parameter (R181, R182). -/
theorem FirstFailure.argFits {s : State} {c : ErrorCode} {a : ErrorArg} (h : FirstFailure s c a) :
    c ≠ .none ∧ argFits c a = true := by
  cases h <;> exact ⟨by simp, rfl⟩

end Sys2Proof.Machine
end

section
/-! PROOF. The bounds of the datapaths: table entries, CRC registers and FNV hashes stay below 2^W (10_state.md R40 to R42). -/

namespace Sys2Proof.Machine

theorem mask_toNat_lt (w : Nat) : (mask w).toNat < 2 ^ w := by
  have hpos : 0 < 2 ^ w := Nat.two_pow_pos w
  have hle : (mask w).toNat ≤ 2 ^ w - 1 := by simpa [mask] using Nat.mod_le _ _
  omega

theorem and_mask_toNat_lt (w : Nat) (r : Word64) : (r &&& mask w).toNat < 2 ^ w := by
  rw [BitVec.toNat_and]
  exact Nat.and_le_right.trans_lt (mask_toNat_lt w)

theorem crcIterate_toNat_lt {w : Nat} {p : Word64} (hp : p.toNat < 2 ^ w) (r : Word64) :
    (crcIterate w p r).toNat < 2 ^ w := by
  unfold crcIterate
  split
  · rw [BitVec.toNat_xor]
    exact Nat.xor_lt_two_pow (and_mask_toNat_lt w _) hp
  · exact and_mask_toNat_lt w _

theorem crcIterations_toNat_lt {w : Nat} {p : Word64} (hp : p.toNat < 2 ^ w) (n : Nat) (r : Word64)
    (hr : r.toNat < 2 ^ w) : (crcIterations w p n r).toNat < 2 ^ w := by
  induction n generalizing r with
  | zero => exact hr
  | succ n ih => exact ih _ (crcIterate_toNat_lt hp r)

theorem crcTableEntry_toNat_lt {w : Nat} {p : Word64} (hp : p.toNat < 2 ^ w) (b : Byte) :
    (crcTableEntry w p b).toNat < 2 ^ w :=
  crcIterations_toNat_lt hp 7 _ (crcIterate_toNat_lt hp (crcSeed w b))

theorem crcStep_toNat_lt {w : Nat} {t : List Word64} (ht : ∀ b : Byte, (tableAt t b).toNat < 2 ^ w) (refin : Bool)
    (r : Word64) (b : Byte) : (crcStep w refin t r b).toNat < 2 ^ w := by
  unfold crcStep
  rw [BitVec.toNat_xor]
  exact Nat.xor_lt_two_pow (and_mask_toNat_lt w _) (ht _)

theorem fnvStep_toNat_lt (w : Nat) (h : Word1024) (b : Byte) : (fnvStep w h b).toNat < 2 ^ w := by
  unfold fnvStep fnvStepWith
  rw [BitVec.toNat_ofNat]
  exact (Nat.mod_le _ _).trans_lt (Nat.mod_lt _ (Nat.two_pow_pos w))

/-- The widths FNV_WSEL can select (R29). -/
theorem fnvWidth_eq_some_mem {sel : BitVec 3} {w : Nat} (h : fnvWidth sel = some w) :
    w ∈ [32, 64, 128, 256, 512, 1024] := by
  unfold fnvWidth at h
  split at h <;> cases h <;> simp

theorem fnvBasis_lt : ∀ w ∈ [32, 64, 128, 256, 512, 1024], fnvBasis w < 2 ^ w := by decide +kernel

theorem fnvStart_toNat_lt {sel : BitVec 3} {w : Nat} (h : fnvWidth sel = some w) : (fnvStart w).toNat < 2 ^ w := by
  rw [fnvStart, BitVec.toNat_ofNat]
  exact (Nat.mod_le _ _).trans_lt (fnvBasis_lt w (fnvWidth_eq_some_mem h))

end Sys2Proof.Machine
end

section
/-! PROOF. The invariant of the block in four parts: the active configuration, the working registers, the digest buffer and the
error state (10_state.md R40 to R44, R47).  Each part is kept by what leaves its own fields alone. -/

namespace Sys2Proof.Machine

/-- The invariant's part about STATE, the active configuration and the table (R39, R40, R47). -/
structure ConfigFits (s : State) : Prop where
  unconfigured : s.engine = .uninitialized → NoConfig s
  crc : CrcActive s → CrcConfigured s
  fnv : FnvActive s → FnvConfigured s
  tableLength : s.table.length = 256

/-- The invariant's part about the working registers and MSGLEN (R36, R41, R42, R47). -/
structure WorkingFits (s : State) : Prop where
  closed : s.engine ≠ .ready → WorkingZero s
  crc : s.engine = .ready → s.acfg.alg = .crc → CrcMessage s ∧ s.crcR.toNat < 2 ^ s.aW.toNat ∧ s.fnvH = 0
  fnv : s.engine = .ready → s.acfg.alg = .fnv → FnvMessage s ∧ s.fnvH.toNat < 2 ^ s.aW.toNat ∧ s.crcR = 0

/-- The invariant's part about the digest buffer (R43). -/
structure DigestFits (s : State) : Prop where
  opened : s.dvalid = true → s.engine = .ready
  empty : s.dvalid = false → DigestEmpty s
  held : s.dvalid = true → s.dbuf = padDigest (digestNow s) ∧ s.dlen.toNat = s.aW.toNat / 8

/-- The invariant's part about the error state (R44). -/
structure ErrorFits (s : State) : Prop where
  clear : s.err = false → s.errOvf = false ∧ s.errCode = .none ∧ s.errArg = .none ∧ s.errInfo = 0
  set : s.err = true → s.errCode ≠ .none ∧ argFits s.errCode s.errArg = true

/-! ### The invariant and its parts -/

theorem Inv.config {s : State} (h : Inv s) : ConfigFits s where
  unconfigured he := (h.unconfigured he).1
  crc := h.crcConfigured
  fnv := h.fnvConfigured
  tableLength := h.tableLength

theorem Inv.working {s : State} (h : Inv s) : WorkingFits s where
  closed hr := by
    cases he : s.engine with
    | uninitialized => exact (h.unconfigured he).2.1
    | tableBuilt => exact (h.built he).1
    | ready => contradiction
  crc he ha := ⟨h.crcOpen he ha, h.crcBelow ⟨by simp [he], ha⟩, h.fnvIdle fun hf => nomatch ha.symm.trans hf.2⟩
  fnv he ha := ⟨h.fnvOpen he ha, h.fnvBelow ⟨by simp [he], ha⟩, h.crcIdle fun hc => nomatch ha.symm.trans hc.2⟩

theorem Inv.digest {s : State} (h : Inv s) : DigestFits s := ⟨h.digestOpen, h.digestEmpty, h.digestHeld⟩

theorem Inv.error {s : State} (h : Inv s) : ErrorFits s := ⟨h.errorClear, h.errorSet⟩

theorem zero_toNat_lt_two_pow (m w : Nat) : (0 : BitVec m).toNat < 2 ^ w := by
  simp

theorem WorkingFits.crcR_lt {s : State} (h : WorkingFits s) (ha : s.acfg.alg = .crc) :
    s.crcR.toNat < 2 ^ s.aW.toNat := by
  by_cases hr : s.engine = .ready
  · exact (h.crc hr ha).2.1
  · exact (h.closed hr).crcR ▸ zero_toNat_lt_two_pow _ _

theorem WorkingFits.fnvH_lt {s : State} (h : WorkingFits s) (ha : s.acfg.alg = .fnv) :
    s.fnvH.toNat < 2 ^ s.aW.toNat := by
  by_cases hr : s.engine = .ready
  · exact (h.fnv hr ha).2.1
  · exact (h.closed hr).fnvH ▸ zero_toNat_lt_two_pow _ _

theorem WorkingFits.crcR_eq_zero {s : State} (h : WorkingFits s) (hc : ¬ CrcActive s) : s.crcR = 0 := by
  by_cases hr : s.engine = .ready
  · cases ha : s.acfg.alg with
    | crc => exact absurd ⟨by simp [hr], ha⟩ hc
    | fnv => exact (h.fnv hr ha).2.2
  · exact (h.closed hr).crcR

theorem WorkingFits.fnvH_eq_zero {s : State} (h : WorkingFits s) (hf : ¬ FnvActive s) : s.fnvH = 0 := by
  by_cases hr : s.engine = .ready
  · cases ha : s.acfg.alg with
    | crc => exact (h.crc hr ha).2.2
    | fnv => exact absurd ⟨by simp [hr], ha⟩ hf
  · exact (h.closed hr).fnvH

theorem DigestFits.dvalid_eq_false {s : State} (h : DigestFits s) (hr : s.engine ≠ .ready) : s.dvalid = false :=
  Bool.eq_false_iff.2 fun hv => hr (h.opened hv)

theorem DigestFits.dbuf_length {s : State} (h : DigestFits s) : s.dbuf.length = 128 := by
  cases hv : s.dvalid with
  | false => rw [(h.empty hv).dbuf, emptyDbuf_length]
  | true => rw [(h.held hv).1, padDigest_length]

/-- The four parts are the whole invariant. -/
theorem Inv.of_parts {s : State} (hc : ConfigFits s) (hw : WorkingFits s) (hd : DigestFits s) (he : ErrorFits s) :
    Inv s where
  unconfigured hu := ⟨hc.unconfigured hu, hw.closed (by simp [hu]), hd.dvalid_eq_false (by simp [hu])⟩
  built hb := ⟨hw.closed (by simp [hb]), hd.dvalid_eq_false (by simp [hb])⟩
  crcConfigured := hc.crc
  fnvConfigured := hc.fnv
  crcOpen hr ha := (hw.crc hr ha).1
  fnvOpen hr ha := (hw.fnv hr ha).1
  crcBelow ha := hw.crcR_lt ha.2
  fnvBelow ha := hw.fnvH_lt ha.2
  crcIdle := hw.crcR_eq_zero
  fnvIdle := hw.fnvH_eq_zero
  digestOpen := hd.opened
  digestEmpty := hd.empty
  digestHeld := hd.held
  dbufLength := hd.dbuf_length
  tableLength := hc.tableLength
  errorClear := he.clear
  errorSet := he.set

/-! ### What keeps each part -/

/-- The configuration's part looks at STATE only to tell a configured engine from an unconfigured one. -/
theorem ConfigFits.of_same {s t : State} (h : ConfigFits s) (he : t.engine = .uninitialized ↔ s.engine = .uninitialized)
    (ha : SameActive s t) : ConfigFits t := by
  obtain ⟨acfg, aW, aPoly, aInit, aXorout, tvalid, table⟩ := ha
  refine ⟨fun hu => ?_, fun hc => ?_, fun hf => ?_, ?_⟩
  · obtain ⟨⟩ := h.unconfigured (he.1 hu)
    constructor <;> simp_all
  · obtain ⟨⟩ := h.crc ⟨mt he.2 hc.1, acfg ▸ hc.2⟩
    constructor <;> simp_all
  · obtain ⟨⟩ := h.fnv ⟨mt he.2 hf.1, acfg ▸ hf.2⟩
    constructor <;> simp_all
  · rw [table, h.tableLength]

theorem WorkingFits.of_same {s t : State} (h : WorkingFits s) (he : t.engine = s.engine) (ha : SameActive s t)
    (hw : SameWorking s t) : WorkingFits t := by
  obtain ⟨acfg, aW, -, aInit, -, -, table⟩ := ha
  obtain ⟨crcR, fnvH, msglen⟩ := hw
  refine ⟨fun hr => ?_, fun hr hc => ?_, fun hr hf => ?_⟩
  · obtain ⟨⟩ := h.closed (he ▸ hr)
    constructor <;> simp_all
  · simpa only [CrcMessage, acfg, aW, aInit, table, crcR, fnvH, msglen] using h.crc (he ▸ hr) (acfg ▸ hc)
  · simpa only [FnvMessage, aW, crcR, fnvH, msglen] using h.fnv (he ▸ hr) (acfg ▸ hf)

theorem digestNow_of_same {s t : State} (ha : SameActive s t) (hw : SameWorking s t) : digestNow t = digestNow s := by
  obtain ⟨acfg, aW, -, -, aXorout, -, -⟩ := ha
  simp only [digestNow, acfg, aW, aXorout, hw.crcR, hw.fnvH]

theorem DigestFits.of_same {s t : State} (h : DigestFits s) (he : t.engine = s.engine) (ha : SameActive s t)
    (hw : SameWorking s t) (hd : SameDigest s t) : DigestFits t := by
  obtain ⟨dvalid, dlen, dbuf⟩ := hd
  refine ⟨fun hv => ?_, fun hv => ?_, fun hv => ?_⟩
  · rw [he, h.opened (dvalid ▸ hv)]
  · obtain ⟨-, hlen, hbuf⟩ := h.empty (dvalid ▸ hv)
    exact ⟨hv, dlen.trans hlen, dbuf.trans hbuf⟩
  · rw [dbuf, dlen, digestNow_of_same ha hw, ha.aW]
    exact h.held (dvalid ▸ hv)

theorem ErrorFits.of_same {s t : State} (h : ErrorFits s) (hs : SameError s t) : ErrorFits t := by
  obtain ⟨⟩ := hs
  obtain ⟨⟩ := h
  constructor <;> simp_all

/-! ### The parts where something is empty -/

theorem ConfigFits.of_noConfig {t : State} (he : t.engine = .uninitialized) (h : NoConfig t) : ConfigFits t where
  unconfigured _ := h
  crc hc := absurd he hc.1
  fnv hf := absurd he hf.1
  tableLength := by rw [h.table, emptyTable_length]

theorem WorkingFits.of_zero {t : State} (he : t.engine ≠ .ready) (h : WorkingZero t) : WorkingFits t where
  closed _ := h
  crc hr := absurd hr he
  fnv hr := absurd hr he

theorem DigestFits.of_empty {t : State} (h : DigestEmpty t) : DigestFits t where
  opened hv := by simp [h.dvalid] at hv
  empty _ := h
  held hv := by simp [h.dvalid] at hv

theorem ErrorFits.of_captured {c : ErrorCode} {a : ErrorArg} {w : Word} {s t : State} (h : ErrorFits s)
    (hfit : c ≠ .none ∧ argFits c a = true) (hcap : Captured c a w s t) : ErrorFits t where
  clear he := by simp [hcap.err] at he
  set _ := by
    cases he : s.err with
    | false =>
      obtain ⟨-, hcode, harg, -⟩ := hcap.first he
      rwa [hcode, harg]
    | true =>
      obtain ⟨-, hcode, harg, -⟩ := hcap.later he
      rw [hcode, harg]
      exact h.set he

/-! ### The invariant where nothing changes, and at reset -/

/-- Of the staging registers and the bus the invariant says nothing, so only the error state may change besides. -/
theorem Inv.of_same {s t : State} (h : Inv s) (he : t.engine = s.engine) (ha : SameActive s t) (hw : SameWorking s t)
    (hd : SameDigest s t) (hx : ErrorFits t) : Inv t :=
  .of_parts (h.config.of_same (by rw [he]) ha) (h.working.of_same he ha hw) (h.digest.of_same he ha hw hd) hx

theorem Inv.of_sameBlock {s t : State} (h : Inv s) (hb : SameBlock s t) : Inv t :=
  h.of_same hb.engine hb.active hb.working hb.digest (h.error.of_same hb.error)

theorem Inv.of_unconfigured {t : State} (he : t.engine = .uninitialized) (hc : NoConfig t) (hw : WorkingZero t)
    (hd : DigestEmpty t) (hx : ErrorFits t) : Inv t :=
  .of_parts (.of_noConfig he hc) (.of_zero (by simp [he]) hw) (.of_empty hd) hx

/-- Settles O49: reset configures nothing, and leaves no message, no digest and no error. -/
theorem resetMeetsTheInvariant : Obligations.ResetMeetsTheInvariant :=
  .of_unconfigured rfl ⟨rfl, rfl, rfl, rfl, rfl, rfl, rfl⟩ ⟨rfl, rfl, rfl⟩ ⟨rfl, rfl, rfl⟩
    ⟨fun _ => ⟨rfl, rfl, rfl, rfl⟩, fun h => absurd h (by decide)⟩

end Sys2Proof.Machine
end

section
/-! PROOF. Every operation, every command and every step keeps the invariant of the block (10_state.md R47). -/

namespace Sys2Proof.Machine

/-! ### The operations -/

theorem Inv.raiseError {s : State} (h : Inv s) {c : ErrorCode} {a : ErrorArg} (hfit : c ≠ .none ∧ argFits c a = true)
    (w : Word) : Inv (raiseError c a w s) := by
  obtain ⟨engine, -, active, working, digest, -⟩ := raiseError_sameButError c a w s
  exact h.of_same engine active working digest (h.error.of_captured hfit (raiseError_captured c a w s))

theorem Inv.clearError {s : State} (h : Inv s) : Inv (clearError s) :=
  h.of_same rfl ⟨rfl, rfl, rfl, rfl, rfl, rfl, rfl⟩ ⟨rfl, rfl, rfl⟩ ⟨rfl, rfl, rfl⟩
    ⟨fun _ => ⟨rfl, rfl, rfl, rfl⟩, fun hx => absurd hx (by simp)⟩

/-- The invariant does not look at the host's side of the bus. -/
theorem Inv.withBus {s : State} (h : Inv s) (p : List BusEvent) (r : List Response) :
    Inv { s with pending := p, responses := r } :=
  h.of_sameBlock
    ⟨rfl, ⟨rfl, rfl, rfl, rfl, rfl, rfl, rfl, rfl⟩, ⟨rfl, rfl, rfl, rfl, rfl, rfl, rfl⟩, ⟨rfl, rfl, rfl⟩, ⟨rfl, rfl, rfl⟩,
      ⟨rfl, rfl, rfl, rfl, rfl⟩⟩

theorem Inv.applyReset (s : State) : Inv (applyReset s) :=
  resetMeetsTheInvariant.withBus s.pending s.responses

theorem Inv.discardConfig {s : State} (h : Inv s) : Inv (discardConfig s) := by
  obtain ⟨config, working, digest, -, error, -⟩ := discardConfig_spec s
  exact .of_unconfigured rfl config working digest (h.error.of_same error)

/-- Parameters that pass the CRC checks of CONFIGURE are a valid CRC configuration, and its table is built (R142). -/
theorem latchConfig_crcConfigured {s : State} (alg : s.cfg.alg = .crc)
    (width : s.cfg.crcWidth.toNat ∈ [8, 16, 24, 32, 40, 48, 56, 64]) (poly : s.poly.toNat < 2 ^ s.cfg.crcWidth.toNat)
    (init : s.init.toNat < 2 ^ s.cfg.crcWidth.toNat) (xorout : s.xorout.toNat < 2 ^ s.cfg.crcWidth.toNat) :
    CrcConfigured (latchConfig s) := by
  have aW : (latchConfig s).aW = s.cfg.crcWidth.setWidth 11 := by simp [cfgWidth, alg]
  have aWNat : (latchConfig s).aW.toNat = s.cfg.crcWidth.toNat := by
    rw [aW, BitVec.toNat_setWidth_of_le (by decide)]
  have entries (b : Byte) :
      tableAt (latchConfig s).table b = crcTableEntry (latchConfig s).aW.toNat (latchConfig s).aPoly b := by
    rw [latchConfig_table, if_pos (by simp [alg]), tableAt_crcTable, latchConfig_aW, latchConfig_aPoly]
  refine ⟨?_, aW, ?_, ?_, ?_, by simp [alg], entries, fun b => ?_⟩
  · rwa [aWNat, legalCrcWidth_iff]
  · rw [aWNat]; exact poly
  · rw [aWNat]; exact init
  · rw [aWNat]; exact xorout
  · rw [entries]
    exact crcTableEntry_toNat_lt (by rw [aWNat]; exact poly) b

/-- A code that passes the FNV check of CONFIGURE is a valid FNV configuration (R142). -/
theorem latchConfig_fnvConfigured {s : State} (alg : s.cfg.alg = .fnv) (width : s.cfg.fnvWsel.toNat ≤ 5) :
    FnvConfigured (latchConfig s) := by
  have legal : (fnvWidth s.cfg.fnvWsel).isNone ≠ true := by rw [Ne, fnvWidth_isNone_iff]; omega
  obtain ⟨w, hw⟩ := Option.ne_none_iff_exists'.1 (mt Option.isNone_iff_eq_none.2 legal)
  refine ⟨?_, by simp [alg], by simp [alg]⟩
  have hlt : w < 2048 :=
    (by decide : ∀ v ∈ [32, 64, 128, 256, 512, 1024], v < 2048) w (fnvWidth_eq_some_mem hw)
  simp [cfgWidth, alg, hw, Nat.mod_eq_of_lt hlt]

theorem Inv.latchConfig {s : State} (h : Inv s) (passes : ConfigPasses s) : Inv (latchConfig s) := by
  obtain ⟨working, digest, -, error, -⟩ := latchConfig_spec s
  refine .of_parts ?_ (.of_zero (by simp) working) (.of_empty digest) (h.error.of_same error)
  cases passes with
  | crc alg width poly init xorout =>
    exact
      { unconfigured := fun hu => absurd hu (by simp)
        crc := fun _ => latchConfig_crcConfigured alg width poly init xorout
        fnv := fun hf => absurd hf.2 (by simp [alg])
        tableLength := by simp [alg] }
  | fnv alg width =>
    exact
      { unconfigured := fun hu => absurd hu (by simp)
        crc := fun hc => absurd hc.2 (by simp [alg])
        fnv := fun _ => latchConfig_fnvConfigured alg width
        tableLength := by simp [alg] }

/-- START opens the empty message (R144). -/
theorem Inv.openMessage {s : State} (h : Inv s) (configured : s.engine ≠ .uninitialized) : Inv (openMessage s) := by
  obtain ⟨digest, -, active, error, -⟩ := openMessage_spec s
  have config : ConfigFits (Machine.openMessage s) := h.config.of_same (by simp [configured]) active
  refine .of_parts config ⟨fun hr => absurd (openMessage_engine s) hr, fun _ ha => ?_, fun _ ha => ?_⟩
    (.of_empty digest) (h.error.of_same error)
  · have alg : s.acfg.alg = .crc := by simpa using ha
    have hcrc := h.crcConfigured ⟨configured, alg⟩
    have hfnv : s.fnvH = 0 := h.fnvIdle fun hf => nomatch alg.symm.trans hf.2
    exact ⟨⟨[], by simp [alg, crcReg], by simp⟩, by simpa [alg] using hcrc.init, by simpa [alg] using hfnv⟩
  · have alg : s.acfg.alg = .fnv := by simpa using ha
    have hfnv := h.fnvConfigured ⟨configured, alg⟩
    have hcrc : s.crcR = 0 := h.crcIdle fun hc => nomatch alg.symm.trans hc.2
    exact ⟨⟨[], by simp [alg, fnvReg], by simp⟩, by simpa [alg] using fnvStart_toNat_lt hfnv.width,
      by simpa [alg] using hcrc⟩

/-- One byte more extends the message of CRC_R (R108, R160). -/
theorem CrcMessage.absorb {s : State} (h : CrcMessage s) (alg : s.acfg.alg = .crc) (b : Byte) :
    CrcMessage (absorb s b) := by
  obtain ⟨m, hcrc, hlen⟩ := h
  exact ⟨m ++ [b], by simp [alg, hcrc, crcReg], by simp [hlen, BitVec.ofNat_add]⟩

/-- One byte more extends the message of FNV_H (R124, R160). -/
theorem FnvMessage.absorb {s : State} (h : FnvMessage s) (alg : s.acfg.alg = .fnv) (b : Byte) :
    FnvMessage (absorb s b) := by
  obtain ⟨m, hfnv, hlen⟩ := h
  exact ⟨m ++ [b], by simp [alg, hfnv, fnvReg], by simp [hlen, BitVec.ofNat_add]⟩

theorem Inv.absorb {s : State} (h : Inv s) (ready : s.engine = .ready) (b : Byte) : Inv (absorb s b) := by
  obtain ⟨digest, -, active, error, -⟩ := absorb_spec s b
  have configured : s.engine ≠ .uninitialized := by simp [ready]
  have config : ConfigFits (Machine.absorb s b) := h.config.of_same (by simp) active
  refine .of_parts config ⟨fun hr => absurd ((absorb_engine s b).trans ready) hr, fun _ ha => ?_, fun _ ha => ?_⟩
    (.of_empty digest) (h.error.of_same error)
  · have alg : s.acfg.alg = .crc := by simpa using ha
    obtain ⟨message, -, idle⟩ := h.working.crc ready alg
    have below := crcStep_toNat_lt (h.crcConfigured ⟨configured, alg⟩).below s.acfg.refin s.crcR b
    exact ⟨message.absorb alg b, by simpa [alg] using below, by simpa [alg] using idle⟩
  · have alg : s.acfg.alg = .fnv := by simpa using ha
    obtain ⟨message, -, idle⟩ := h.working.fnv ready alg
    have below := fnvStep_toNat_lt s.aW.toNat s.fnvH b
    exact ⟨message.absorb alg b, by simpa [alg] using below, by simpa [alg] using idle⟩

theorem Inv.absorbAll {s : State} (h : Inv s) (ready : s.engine = .ready) (m : List Byte) : Inv (absorbAll s m) := by
  induction m generalizing s with
  | nil => exact h
  | cons b m ih => exact ih (h.absorb ready b) ((absorb_engine s b).trans ready)

/-- FINAL fills the buffer from the working register, which it leaves (R163). -/
theorem Inv.storeDigest {s : State} (h : Inv s) (ready : s.engine = .ready) : Inv (storeDigest s) := by
  have active : SameActive s (Machine.storeDigest s) := ⟨rfl, rfl, rfl, rfl, rfl, rfl, rfl⟩
  have working : SameWorking s (Machine.storeDigest s) := ⟨rfl, rfl, rfl⟩
  have error : SameError s (Machine.storeDigest s) := ⟨rfl, rfl, rfl, rfl, rfl⟩
  have fits : s.aW.toNat / 8 < 256 := by omega
  have digest : DigestFits (Machine.storeDigest s) :=
    { opened := fun _ => ready
      empty := fun hv => absurd hv (by simp)
      held := fun _ => ⟨by simp [digestNow_of_same active working], by simpa using fits⟩ }
  exact .of_parts (h.config.of_same (by simp) active) (h.working.of_same rfl active working) digest
    (h.error.of_same error)

/-! ### The commands and the bus -/

theorem Inv.execRule {i : Instr} {s t : State} (h : Inv s) (rule : ExecRule i s t) : Inv t := by
  cases rule with
  | nop => exact h
  | configureFails failure => exact (h.raiseError failure.argFits _).discardConfig
  | configurePasses passes => exact h.latchConfig passes
  | startFails | feedImmFails | feedDataFails | finalFails => exact h.raiseError ⟨by simp, rfl⟩ _
  | startOpens configured => exact h.openMessage configured
  | feedImmAbsorbs b ready => exact h.absorb ready b
  | feedDataAbsorbs n ready => exact h.absorbAll ready _
  | finalStores ready => exact h.storeDigest ready
  | clearErr => exact h.clearError
  | softReset => exact .applyReset s

theorem Inv.writeReg {s : State} (h : Inv s) (r : Reg) (v : Word) : Inv (writeReg s r v) := by
  obtain ⟨engine, active, working, digest, error, -⟩ := writeReg_frame s r v
  exact h.of_same engine active working digest (h.error.of_same error)

theorem Inv.issueCommand {s t : State} (h : Inv s) {w : Word} (ht : issueCommand w s = .next t) : Inv t := by
  unfold Machine.issueCommand at ht
  split at ht
  · cases ht; exact h.raiseError ⟨by simp, rfl⟩ w
  · exact h.execRule (exec_eq_next_iff.1 ht)

theorem Inv.writeWord {s t : State} (h : Inv s) {offset : BitVec 12} {v : Word} (ht : writeWord offset v s = .next t) :
    Inv t := by
  unfold Machine.writeWord at ht
  split at ht
  · exact h.issueCommand ht
  · cases ht; exact h.writeReg _ v

/-- A bus error lets through no change but to the host's side (R62). -/
theorem Inv.busErrorOn {s t : State} (h : Inv s) {effect : BusErrorEffect} {e : BusEvent}
    (ht : busErrorOn effect e s = .next t) : Inv t := by
  cases effect with
  | abort => cases ht
  | proceed => cases ht; exact h.withBus _ _
  | trap handler => cases ht; exact h.withBus _ _

theorem Inv.handleEvent {s t : State} (h : Inv s) {effect : BusErrorEffect} {e : BusEvent}
    (ht : handleEvent effect e s = .next t) : Inv t := by
  cases e with
  | read size offset =>
    simp only [Machine.handleEvent] at ht
    split at ht
    · cases ht; exact h.withBus _ _
    · exact h.busErrorOn ht
  | write size offset v =>
    simp only [Machine.handleEvent] at ht
    split at ht
    · exact (h.withBus _ _).writeWord ht
    · exact h.busErrorOn ht
  | reset => cases ht; exact .applyReset s

/-- Settles O50, event by event: a bus error and a read leave the block, a register write leaves all but staging, and every
command keeps the invariant. -/
theorem everyStepKeepsTheInvariant : Obligations.EveryStepKeepsTheInvariant := by
  intro effect s t h ht
  cases hp : s.pending with
  | nil =>
    rw [stepOn_nil effect s hp] at ht
    cases ht; exact h
  | cons e rest =>
    rw [stepOn_cons effect s e rest hp] at ht
    exact (h.withBus rest s.responses).handleEvent ht

end Sys2Proof.Machine
end

section
/-! PROOF. What the commands do to the flags, and what staging writes do not reach (10_state.md R39, R45). -/

namespace Sys2Proof.Machine

/-! ### The writers of the flags -/

/-- Settles O52, outcome by outcome of each command. -/
theorem flagsHaveTheirWriters : Obligations.FlagsHaveTheirWriters := by
  intro i s t ht
  have rule := exec_eq_next_iff.1 ht
  clear ht
  cases rule with
  | nop | clearErr => simp
  | softReset => simp [State.reset]
  | configureFails | startFails | feedImmFails | feedDataFails | finalFails => simp +contextual
  | configurePasses | startOpens => simp +contextual
  | feedImmAbsorbs | finalStores => simp +contextual
  | feedDataAbsorbs n => simp +contextual [absorbAll_dvalid_eq_false s (dataBytes s.data n)]

/-! ### Register writes commute with the operations of the message -/

theorem raiseError_writeReg (c : ErrorCode) (a : ErrorArg) (w : Word) (s : State) (r : Reg) (v : Word) :
    raiseError c a w (writeReg s r v) = writeReg (raiseError c a w s) r v := by
  unfold raiseError
  rw [(writeReg_frame s r v).2.2.2.2.1.err]
  split <;> cases r <;> rfl

theorem clearError_writeReg (s : State) (r : Reg) (v : Word) :
    clearError (writeReg s r v) = writeReg (clearError s) r v := by
  cases r <;> rfl

theorem openMessage_writeReg (s : State) (r : Reg) (v : Word) :
    openMessage (writeReg s r v) = writeReg (openMessage s) r v := by
  unfold openMessage
  rw [(writeReg_frame s r v).2.1.acfg]
  split <;> cases r <;> rfl

theorem absorb_writeReg (s : State) (b : Byte) (r : Reg) (v : Word) :
    absorb (writeReg s r v) b = writeReg (absorb s b) r v := by
  unfold absorb
  rw [(writeReg_frame s r v).2.1.acfg]
  split <;> cases r <;> rfl

theorem absorbAll_writeReg (s : State) (m : List Byte) (r : Reg) (v : Word) :
    absorbAll (writeReg s r v) m = writeReg (absorbAll s m) r v := by
  induction m generalizing s with
  | nil => rfl
  | cons b m ih => rw [absorbAll_cons, absorb_writeReg, ih, absorbAll_cons]

theorem storeDigest_writeReg (s : State) (r : Reg) (v : Word) :
    storeDigest (writeReg s r v) = writeReg (storeDigest s) r v := by
  cases r <;> rfl

@[simp] theorem writeReg_engine (s : State) (r : Reg) (v : Word) : (writeReg s r v).engine = s.engine :=
  (writeReg_frame s r v).1

theorem writeReg_data (s : State) {r : Reg} (hr : r ≠ .data) (v : Word) : (writeReg s r v).data = s.data := by
  cases r with
  | data => contradiction
  | _ => rfl

/-- A write to any register but DATA commutes with every command that does not read or reset the staging registers. -/
theorem ExecRule.writeReg {i : Instr} {s t : State} (rule : ExecRule i s t) (hconf : i ≠ .configure)
    (hreset : i ≠ .softReset) {r : Reg} (hr : r ≠ .data) (v : Word) :
    ExecRule i (writeReg s r v) (writeReg t r v) := by
  have engine := writeReg_engine s r v
  cases rule with
  | nop => exact .nop _
  | configureFails | configurePasses => contradiction
  | startFails unconfigured => rw [← raiseError_writeReg]; exact .startFails (engine.trans unconfigured)
  | startOpens configured => rw [← openMessage_writeReg]; exact .startOpens (by rwa [engine])
  | feedImmFails b closed => rw [← raiseError_writeReg]; exact .feedImmFails b (by rwa [engine])
  | feedImmAbsorbs b ready => rw [← absorb_writeReg]; exact .feedImmAbsorbs b (engine.trans ready)
  | feedDataFails n closed => rw [← raiseError_writeReg]; exact .feedDataFails n (by rwa [engine])
  | feedDataAbsorbs n ready =>
    rw [← absorbAll_writeReg, ← writeReg_data s hr v]; exact .feedDataAbsorbs n (engine.trans ready)
  | finalFails closed => rw [← raiseError_writeReg]; exact .finalFails (by rwa [engine])
  | finalStores ready => rw [← storeDigest_writeReg]; exact .finalStores (engine.trans ready)
  | clearErr => rw [← clearError_writeReg]; exact .clearErr _
  | softReset => contradiction

/-- Settles O55: of the staging registers a message command reads none, and it writes none. -/
theorem stagingWritesDoNotReachTheMessage : Obligations.StagingWritesDoNotReachTheMessage := by
  intro i s r v hr hconf hreset
  obtain ⟨t, ht, -⟩ := exec_next i s
  have hdata : r ≠ .data := by rintro rfl; simp at hr
  exact ⟨t, ht, ((exec_eq_next_iff.1 ht).writeReg hconf hreset hdata v).exec_eq⟩

end Sys2Proof.Machine
end

section
/-! PROOF. What a read of the register window shows: the fields of the packed registers, the halves of the 64-bit values and the
byte lanes of the digest (10_state.md R22 to R38). -/

namespace Sys2Proof.Machine

/-! ### The fields of STATUS (R23) -/

theorem statusWord_state (s : State) : (statusWord s).extractLsb' 0 2 = s.engine.code := by
  unfold statusWord
  rw [BitVec.extractLsb'_append_eq_of_add_le (by decide), BitVec.extractLsb'_eq_self]

theorem statusWord_flags (s : State) :
    (statusWord s).getLsbD 2 = s.dvalid ∧ (statusWord s).getLsbD 3 = s.err ∧ (statusWord s).getLsbD 4 = s.errOvf := by
  unfold statusWord
  refine ⟨?_, ?_, ?_⟩
  · rw [BitVec.getLsbD_append, BitVec.getLsbD_append]; simp
  · rw [BitVec.getLsbD_append, BitVec.getLsbD_append, BitVec.getLsbD_append]; simp
  · rw [BitVec.getLsbD_append, BitVec.getLsbD_append, BitVec.getLsbD_append, BitVec.getLsbD_append]; simp

theorem statusWord_codes (s : State) :
    (statusWord s).extractLsb' 8 4 = s.errCode.code ∧ (statusWord s).extractLsb' 12 4 = s.errArg.code := by
  unfold statusWord
  refine ⟨?_, ?_⟩ <;>
  · repeat rw [BitVec.extractLsb'_append_eq_of_le (by decide)]
    rw [BitVec.extractLsb'_append_eq_of_add_le (by decide), BitVec.extractLsb'_eq_self]

theorem statusWord_reserved (s : State) :
    (statusWord s).extractLsb' 5 3 = 0 ∧ (statusWord s).extractLsb' 16 16 = 0 := by
  unfold statusWord
  refine ⟨?_, ?_⟩
  · repeat rw [BitVec.extractLsb'_append_eq_of_le (by decide)]
    rw [BitVec.extractLsb'_append_eq_of_add_le (by decide), BitVec.extractLsb'_eq_self]
  · repeat rw [BitVec.extractLsb'_append_eq_of_le (by decide)]
    rfl

/-- Settles O16: the fields of `statusWord`, with each code's value. -/
theorem statusHoldsItsFields : Obligations.StatusHoldsItsFields := by
  intro s
  obtain ⟨dvalid, err, errOvf⟩ := statusWord_flags s
  obtain ⟨errCode, errArg⟩ := statusWord_codes s
  obtain ⟨low, high⟩ := statusWord_reserved s
  exact ⟨statusWord_state s, dvalid, err, errOvf, low, errCode, errArg, high⟩

/-! ### The fields of CFG and ACFG (R27, R30) -/

theorem Alg.toBit_getLsbD (a : Alg) : a.toBit.getLsbD 0 = decide (a = .fnv) := by
  cases a <;> rfl

theorem ByteOrder.toBit_getLsbD (o : ByteOrder) : o.toBit.getLsbD 0 = decide (o = .littleEndian) := by
  cases o <;> rfl

theorem packCfg_flags (c : Cfg) :
    (packCfg c).getLsbD 0 = decide (c.alg = .fnv) ∧ (packCfg c).getLsbD 1 = c.refin ∧ (packCfg c).getLsbD 2 = c.refout
      ∧ (packCfg c).getLsbD 3 = decide (c.order = .littleEndian) := by
  rw [← Alg.toBit_getLsbD, ← ByteOrder.toBit_getLsbD]
  unfold packCfg
  refine ⟨?_, ?_, ?_, ?_⟩
  · rw [BitVec.getLsbD_append]; simp
  · rw [BitVec.getLsbD_append, BitVec.getLsbD_append]; simp
  · rw [BitVec.getLsbD_append, BitVec.getLsbD_append, BitVec.getLsbD_append]; simp
  · rw [BitVec.getLsbD_append, BitVec.getLsbD_append, BitVec.getLsbD_append, BitVec.getLsbD_append]; simp

theorem packCfg_codes (c : Cfg) :
    (packCfg c).extractLsb' 4 3 = c.fnvWsel ∧ (packCfg c).extractLsb' 8 7 = c.crcWidth := by
  unfold packCfg
  refine ⟨?_, ?_⟩ <;>
  · repeat rw [BitVec.extractLsb'_append_eq_of_le (by decide)]
    rw [BitVec.extractLsb'_append_eq_of_add_le (by decide), BitVec.extractLsb'_eq_self]

theorem packCfg_reserved (c : Cfg) : (packCfg c).getLsbD 7 = false ∧ (packCfg c).extractLsb' 15 17 = 0 := by
  unfold packCfg
  refine ⟨?_, ?_⟩
  · iterate 6 rw [BitVec.getLsbD_append]
    simp
  · repeat rw [BitVec.extractLsb'_append_eq_of_le (by decide)]
    rfl

/-- Settles O58: both registers are a packed configuration. -/
theorem configurationRegistersHoldTheirFields : Obligations.ConfigurationRegistersHoldTheirFields := by
  intro s r c hrc
  have hread : readReg s r = packCfg c := by
    obtain ⟨rfl, rfl⟩ | ⟨rfl, rfl⟩ : r = .cfg ∧ c = s.cfg ∨ r = .acfg ∧ c = s.acfg := by simpa using hrc
    · rfl
    · rfl
  rw [hread]
  obtain ⟨alg, refin, refout, order⟩ := packCfg_flags c
  obtain ⟨fnvWsel, crcWidth⟩ := packCfg_codes c
  obtain ⟨bit7, high⟩ := packCfg_reserved c
  exact ⟨alg, refin, refout, order, fnvWsel, bit7, crcWidth, high⟩

/-! ### Constants, values and their halves -/

/-- A 64-bit value is its high half and its low half (20_memory.md R67). -/
theorem append_halves (x : Word64) : x.extractLsb' 32 32 ++ x.extractLsb' 0 32 = x :=
  (BitVec.extractLsb'_append_extractLsb'_eq_extractLsb' (start₁ := 0) (len₁ := 32) rfl).trans BitVec.extractLsb'_eq_self

/-- Settles O15: the three readings look at no field. -/
theorem constantRegistersRead : Obligations.ConstantRegistersRead := fun _ => ⟨rfl, rfl, rfl⟩

/-- Settles O57: MSGLEN is its two halves, and the parameters are the pairs of their registers. -/
theorem valueRegistersShowTheirFields : Obligations.ValueRegistersShowTheirFields := fun s =>
  ⟨rfl, BitVec.toNat_setWidth_of_le (by decide), append_halves s.msglen, rfl, rfl, rfl, rfl⟩

theorem tableVisible_iff (s : State) : tableVisible s = true ↔ CrcActive s := by
  simp [tableVisible, CrcActive]

/-- Settles O18: the window shows the halves of the entry while a CRC configuration is active, and of 0 otherwise. -/
theorem tableWindowShowsTheTable : Obligations.TableWindowShowsTheTable := by
  intro s i
  constructor
  · intro active
    have shown : visibleEntry s i = s.table.getD i.toNat 0 := if_pos ((tableVisible_iff s).2 active)
    exact (append_halves (visibleEntry s i)).trans shown
  · intro inactive
    have hidden : visibleEntry s i = 0 := if_neg (mt (tableVisible_iff s).1 inactive)
    simp [readReg, hidden]

/-! ### The digest window (R37) -/

/-- Byte lane `j` of a word of four lanes. -/
theorem byteLane_wordOfLanes (f : Nat → Byte) (j : Nat) (hj : j < 4) :
    byteLane (wordOfLanes (f 0) (f 1) (f 2) (f 3)) j = f j := by
  refine BitVec.eq_of_getLsbD_eq fun i hi => ?_
  rw [byteLane, BitVec.getLsbD_extractLsb', getLsbD_wordOfLanes, decide_eq_true hi, Bool.true_and]
  obtain rfl | rfl | rfl | rfl : j = 0 ∨ j = 1 ∨ j = 2 ∨ j = 3 := by omega
  · rw [if_pos (by omega)]; simp
  · rw [if_neg (by omega), if_pos (by omega)]; simp
  · rw [if_neg (by omega), if_neg (by omega), if_pos (by omega)]; simp
  · rw [if_neg (by omega), if_neg (by omega), if_neg (by omega)]; simp

/-- Settles O17: byte `k` is lane `k % 4` of the word at `k / 4`. -/
theorem digestWindowPacksTheBytes : Obligations.DigestWindowPacksTheBytes := by
  intro s k hk
  have lane := byteLane_wordOfLanes (fun j => digestByte s (4 * (k / 4) + j)) (k % 4) (Nat.mod_lt _ (by decide))
  rw [Nat.div_add_mod] at lane
  exact lane

/-! ### DIGEST_LEN and ACFG of a state that meets the invariant (R30, R35) -/

theorem ConfigFits.width_mem {s : State} (h : ConfigFits s) (configured : s.engine ≠ .uninitialized) :
    s.aW.toNat ∈ [8, 16, 24, 32, 40, 48, 56, 64, 128, 256, 512, 1024] := by
  cases alg : s.acfg.alg with
  | crc =>
    have hw := (legalCrcWidth_iff _).1 (h.crc ⟨configured, alg⟩).width
    exact (by decide : [8, 16, 24, 32, 40, 48, 56, 64] ⊆ [8, 16, 24, 32, 40, 48, 56, 64, 128, 256, 512, 1024]) hw
  | fnv =>
    have hw := fnvWidth_eq_some_mem (h.fnv ⟨configured, alg⟩).width
    exact (by decide : [32, 64, 128, 256, 512, 1024] ⊆ [8, 16, 24, 32, 40, 48, 56, 64, 128, 256, 512, 1024]) hw

/-- The length of a valid digest in bytes (R35). -/
theorem Inv.dlen_mem {s : State} (h : Inv s) (hv : s.dvalid = true) :
    s.dlen.toNat ∈ [1, 2, 3, 4, 5, 6, 7, 8, 16, 32, 64, 128] := by
  have hw := h.config.width_mem (by simp [h.digestOpen hv])
  rw [(h.digestHeld hv).2]
  exact (by decide : ∀ w ∈ [8, 16, 24, 32, 40, 48, 56, 64, 128, 256, 512, 1024],
    w / 8 ∈ [1, 2, 3, 4, 5, 6, 7, 8, 16, 32, 64, 128]) _ hw

theorem packCfg_zero : packCfg Cfg.zero = 0 := by decide

/-- Settles O51: DLEN is 0 without a digest and the active width in bytes with one. -/
theorem digestLenAndAcfgKeepTheirRange : Obligations.DigestLenAndAcfgKeepTheirRange := by
  intro s h
  obtain ⟨-, readLen, -⟩ := valueRegistersShowTheirFields s
  obtain ⟨readValid, -⟩ := statusWord_flags s
  have acfgZero (hu : s.engine = .uninitialized) : readReg s .acfg = 0 := by
    obtain ⟨⟨acfg, -⟩, -⟩ := h.unconfigured hu
    exact (congrArg packCfg acfg).trans packCfg_zero
  rw [← BitVec.toNat_inj, readLen, show readReg s .status = statusWord s from rfl, readValid]
  cases hv : s.dvalid with
  | false =>
    have hlen : s.dlen = 0 := (h.digestEmpty hv).dlen
    exact ⟨by simp [hlen], by simp [hlen], acfgZero⟩
  | true =>
    have hmem := h.dlen_mem hv
    have hpos : s.dlen.toNat ≠ 0 := fun hz => absurd (hz ▸ hmem) (by decide)
    exact ⟨List.mem_cons_of_mem 0 hmem, by simpa using hpos, acfgZero⟩

end Sys2Proof.Machine
end

section
/-! PROOF. Where the window lies and what lies in it: CHK_BASE and the register map (20_memory.md R60, R61). -/

namespace Sys2Proof.Machine

/-! ### The bands of the register map (R61) -/

theorem regAt_below40 {o : BitVec 12} (h : o.toNat < 0x040) : regAt o = regBelow40 (o.toNat / 4) := if_pos h

theorem regAt_gap {o : BitVec 12} (h : (0x040 ≤ o.toNat ∧ o.toNat < 0x080) ∨ (0x100 ≤ o.toNat ∧ o.toNat < 0x800)) :
    regAt o = .reserved := by
  unfold regAt
  obtain ⟨hl, hh⟩ | ⟨hl, hh⟩ := h
  · rw [if_neg (by omega), if_pos hh]
  · rw [if_neg (by omega), if_neg (by omega), if_neg (by omega), if_pos hh]

theorem regAt_digest {o : BitVec 12} (hl : 0x080 ≤ o.toNat) (hh : o.toNat < 0x100) :
    regAt o = .digest (Fin.ofNat 32 ((o.toNat - 0x080) / 4)) := by
  unfold regAt
  rw [if_neg (by omega), if_neg (by omega), if_pos hh]

theorem regAt_table {o : BitVec 12} (h : 0x800 ≤ o.toNat) :
    regAt o = if (o.toNat - 0x800) / 4 % 2 = 0 then .crctabLo (BitVec.ofNat 8 ((o.toNat - 0x800) / 8))
      else .crctabHi (BitVec.ofNat 8 ((o.toNat - 0x800) / 8)) := by
  unfold regAt
  rw [if_neg (by omega), if_neg (by omega), if_neg (by omega), if_neg (by omega)]

/-! ### From a register to its offset and back -/

theorem regOffset_digest_toNat (j : Fin 32) : (regOffset (.digest j)).toNat = 0x080 + 4 * j.val :=
  (BitVec.toNat_ofNat ..).trans (Nat.mod_eq_of_lt (by omega))

theorem regOffset_crctabLo_toNat (i : Byte) : (regOffset (.crctabLo i)).toNat = 0x800 + 8 * i.toNat :=
  (BitVec.toNat_ofNat ..).trans (Nat.mod_eq_of_lt (by omega))

theorem regOffset_crctabHi_toNat (i : Byte) : (regOffset (.crctabHi i)).toNat = 0x804 + 8 * i.toNat :=
  (BitVec.toNat_ofNat ..).trans (Nat.mod_eq_of_lt (by omega))

/-- Every named register lies at its own offset, a multiple of 4. -/
theorem regAt_regOffset {r : Reg} (h : r ≠ .reserved) : regAt (regOffset r) = r ∧ (regOffset r).toNat % 4 = 0 := by
  cases r with
  | reserved => contradiction
  | digest j =>
    have offset := regOffset_digest_toNat j
    refine ⟨?_, by omega⟩
    rw [regAt_digest (by omega) (by omega), offset, Nat.add_sub_cancel_left, Nat.mul_div_cancel_left _ (by decide),
      Fin.ofNat_val_eq_self]
  | crctabLo i =>
    have offset := regOffset_crctabLo_toNat i
    refine ⟨?_, by omega⟩
    rw [regAt_table (by omega), if_pos (by omega), show ((regOffset (.crctabLo i)).toNat - 0x800) / 8 = i.toNat by omega,
      BitVec.ofNat_toNat, BitVec.setWidth_eq]
  | crctabHi i =>
    have offset := regOffset_crctabHi_toNat i
    refine ⟨?_, by omega⟩
    rw [regAt_table (by omega), if_neg (by omega), show ((regOffset (.crctabHi i)).toNat - 0x800) / 8 = i.toNat by omega,
      BitVec.ofNat_toNat, BitVec.setWidth_eq]
  | _ => decide

/-- The sixteen registers below 0x040 are named, each at its index's offset. -/
theorem regOffset_regBelow40 :
    ∀ k < 16, regBelow40 k ≠ .reserved ∧ regOffset (regBelow40 k) = BitVec.ofNat 12 (4 * k) := by decide

/-- Every aligned offset is reserved and in one of the two gaps, or outside them and its own register's. -/
theorem regOffset_regAt {o : BitVec 12} (h : o.toNat % 4 = 0) :
    (regAt o = .reserved ∧ ((0x040 ≤ o.toNat ∧ o.toNat ≤ 0x07C) ∨ (0x100 ≤ o.toNat ∧ o.toNat ≤ 0x7FC)))
      ∨ (regAt o ≠ .reserved ∧ regOffset (regAt o) = o
          ∧ ¬ ((0x040 ≤ o.toNat ∧ o.toNat ≤ 0x07C) ∨ (0x100 ≤ o.toNat ∧ o.toNat ≤ 0x7FC))) := by
  obtain low | gap | digest | table : o.toNat < 0x040
      ∨ ((0x040 ≤ o.toNat ∧ o.toNat < 0x080) ∨ (0x100 ≤ o.toNat ∧ o.toNat < 0x800))
      ∨ (0x080 ≤ o.toNat ∧ o.toNat < 0x100) ∨ 0x800 ≤ o.toNat := by omega
  · right
    obtain ⟨named, offset⟩ := regOffset_regBelow40 (o.toNat / 4) (by omega)
    rw [Nat.mul_div_cancel' (Nat.dvd_of_mod_eq_zero h), BitVec.ofNat_toNat, BitVec.setWidth_eq] at offset
    rw [regAt_below40 low]
    exact ⟨named, offset, by omega⟩
  · exact .inl ⟨regAt_gap gap, by omega⟩
  · right
    rw [regAt_digest digest.1 digest.2]
    refine ⟨by simp, BitVec.eq_of_toNat_eq ?_, by omega⟩
    rw [regOffset_digest_toNat, Fin.val_ofNat]
    omega
  · right
    have := o.isLt
    rw [regAt_table table]
    split
    · refine ⟨by simp, BitVec.eq_of_toNat_eq ?_, by omega⟩
      rw [regOffset_crctabLo_toNat, BitVec.toNat_ofNat]
      omega
    · refine ⟨by simp, BitVec.eq_of_toNat_eq ?_, by omega⟩
      rw [regOffset_crctabHi_toNat, BitVec.toNat_ofNat]
      omega

/-- A named register is found at its own offset and at no other multiple of 4. -/
theorem regAt_eq_iff {o : BitVec 12} (h : o.toNat % 4 = 0) {r : Reg} (hr : r ≠ .reserved) :
    regAt o = r ↔ o = regOffset r := by
  constructor
  · rintro rfl
    obtain ⟨reserved, -⟩ | ⟨-, offset, -⟩ := regOffset_regAt h
    · contradiction
    · exact offset.symm
  · rintro rfl
    exact (regAt_regOffset hr).1

/-- Settles O13, band by band of the map. -/
theorem registerMapIsOneToOne : Obligations.RegisterMapIsOneToOne := by
  refine ⟨?rows, regOffset_digest_toNat, fun i => ⟨regOffset_crctabLo_toNat i, regOffset_crctabHi_toNat i⟩,
    fun _ => regAt_regOffset, fun o h => ?aligned⟩
  case rows =>
    intro o r hrow
    have rows : ∀ p ∈ [((0x000 : BitVec 12), Reg.id), (0x004, .status), (0x008, .cmd), (0x00C, .data), (0x010, .cfg),
        (0x014, .acfg), (0x018, .polyLo), (0x01C, .polyHi), (0x020, .initLo), (0x024, .initHi), (0x028, .xoroutLo),
        (0x02C, .xoroutHi), (0x030, .errInfo), (0x034, .digestLen), (0x038, .msglenLo), (0x03C, .msglenHi)],
        regAt p.1 = p.2 ∧ regOffset p.2 = p.1 := by decide
    exact rows (o, r) hrow
  case aligned =>
    obtain ⟨reserved, gap⟩ | ⟨named, offset, outside⟩ := regOffset_regAt h
    · exact ⟨iff_of_true reserved gap, absurd reserved⟩
    · exact ⟨iff_of_false named outside, fun _ => offset⟩

/-! ### CHK_BASE (R60) -/

theorem windowOffset_inside {p : Config.Placement} {addr : Nat} (h : p.chkBase ≤ addr ∧ addr < p.chkBase + 4096) :
    windowOffset p addr = some (BitVec.ofNat 12 (addr - p.chkBase)) := if_pos h

theorem windowOffset_outside {p : Config.Placement} {addr : Nat} (h : ¬ (p.chkBase ≤ addr ∧ addr < p.chkBase + 4096)) :
    windowOffset p addr = none := if_neg h

/-- Settles O14: the window's page is aligned, and the offset is the distance from its first byte. -/
theorem windowLiesAtChkBase : Obligations.WindowLiesAtChkBase := by
  intro p addr
  have aligned : p.chkBase % 4096 = 0 := Nat.mul_mod_right 4096 p.page
  by_cases inside : p.chkBase ≤ addr ∧ addr < p.chkBase + 4096
  · rw [windowOffset_inside inside]
    refine ⟨aligned, fun o => ?_, iff_of_false nofun (by omega)⟩
    rw [Option.some_inj, ← BitVec.toNat_inj, BitVec.toNat_ofNat]
    omega
  · rw [windowOffset_outside inside]
    exact ⟨aligned, fun o => iff_of_false nofun (by omega), iff_of_true rfl (by omega)⟩

end Sys2Proof.Machine
end

section
/-! PROOF. What a register write stores (20_memory.md R63 to R65). -/

namespace Sys2Proof.Machine

/-! ### The writable bits of CFG (R27) -/

theorem algOfBit_eq_fnv (b : Bool) : decide (algOfBit b = .fnv) = b := by cases b <;> rfl

theorem orderOfBit_eq_littleEndian (b : Bool) : decide (orderOfBit b = .littleEndian) = b := by cases b <;> rfl

/-- Two words that agree in a field agree in each of its bits. -/
theorem getLsbD_eq_of_extractLsb'_eq {w w' : Word} {a n : Nat} (h : w.extractLsb' a n = w'.extractLsb' a n) {i : Nat}
    (hl : a ≤ i) (hh : i < a + n) : w.getLsbD i = w'.getLsbD i := by
  have bit := congrArg (BitVec.getLsbD · (i - a)) h
  have inside : i - a < n := by omega
  simpa only [BitVec.getLsbD_extractLsb', decide_eq_true inside, Bool.true_and, Nat.add_sub_cancel' hl] using bit

/-- The writable bits of CFG, 6 to 0 and 14 to 8, survive a write and a read, and the others read 0 (R27, R65). -/
theorem getLsbD_packCfg_unpackCfg (v : Word) {i : Nat} (hi : i < 32) :
    (packCfg (unpackCfg v)).getLsbD i = (decide (i < 7 ∨ (8 ≤ i ∧ i < 15)) && v.getLsbD i) := by
  obtain ⟨alg, refin, refout, order⟩ := packCfg_flags (unpackCfg v)
  obtain ⟨fnvWsel, crcWidth⟩ := packCfg_codes (unpackCfg v)
  obtain ⟨bit7, high⟩ := packCfg_reserved (unpackCfg v)
  obtain rfl | rfl | rfl | rfl | ⟨hl, hh⟩ | rfl | ⟨hl, hh⟩ | hl : i = 0 ∨ i = 1 ∨ i = 2 ∨ i = 3 ∨ (4 ≤ i ∧ i < 4 + 3)
      ∨ i = 7 ∨ (8 ≤ i ∧ i < 8 + 7) ∨ 15 ≤ i := by omega
  · exact alg.trans (algOfBit_eq_fnv _)
  · exact refin
  · exact refout
  · exact order.trans (orderOfBit_eq_littleEndian _)
  · have writable : i < 7 ∨ (8 ≤ i ∧ i < 15) := by omega
    rw [getLsbD_eq_of_extractLsb'_eq (w' := v) fnvWsel hl hh, decide_eq_true writable, Bool.true_and]
  · exact bit7
  · have writable : i < 7 ∨ (8 ≤ i ∧ i < 15) := by omega
    rw [getLsbD_eq_of_extractLsb'_eq (w' := v) crcWidth hl hh, decide_eq_true writable, Bool.true_and]
  · have ignored : ¬ (i < 7 ∨ (8 ≤ i ∧ i < 15)) := by omega
    rw [getLsbD_eq_of_extractLsb'_eq (w' := 0) high hl hi, decide_eq_false ignored]
    exact BitVec.getLsbD_zero

theorem packCfg_unpackCfg (v : Word) : packCfg (unpackCfg v) = v &&& 0x00007F7F := by
  have mask : ∀ i < 32, (0x00007F7F : Word).getLsbD i = decide (i < 7 ∨ (8 ≤ i ∧ i < 15)) := by decide
  refine BitVec.eq_of_getLsbD_eq fun i hi => ?_
  rw [getLsbD_packCfg_unpackCfg v hi, BitVec.getLsbD_and, mask i hi, Bool.and_comm]

/-! ### What a register write stores -/

/-- A write to DATA or to a staging register shows in no other register, and any other write shows nowhere (R63, R64). -/
theorem readReg_writeReg_of_ne (s : State) {r r' : Reg} (h : r' ≠ r) (v : Word) :
    readReg (writeReg s r v) r' = readReg s r' := by
  cases r with
  | data | cfg | polyLo | polyHi | initLo | initHi | xoroutLo | xoroutHi => cases r' <;> first | rfl | contradiction
  | _ => rfl

/-- What a written register reads afterwards: the value, its writable bits in CFG, and no change in the rest (R63 to R65). -/
theorem readReg_writeReg_self (s : State) (r : Reg) (v : Word) :
    readReg (writeReg s r v) r
      = if r ∈ [.data, .polyLo, .polyHi, .initLo, .initHi, .xoroutLo, .xoroutHi] then v
        else if r = .cfg then v &&& 0x00007F7F
        else readReg s r := by
  cases r with
  | cfg => exact packCfg_unpackCfg v
  | _ => simp [readReg, writeReg]

end Sys2Proof.Machine
end

section
/-! PROOF. One event on the bus: what an accepted event does and how it is answered, what a bus error leaves, and what reaches
the engine (20_memory.md R62 to R71). -/

namespace Sys2Proof.Machine

/-! ### The block and the host's side of the bus -/

theorem sameBlock_withBus (s : State) (p : List BusEvent) (r : List Response) :
    SameBlock s { s with pending := p, responses := r } :=
  ⟨rfl, ⟨rfl, rfl, rfl, rfl, rfl, rfl, rfl, rfl⟩, ⟨rfl, rfl, rfl, rfl, rfl, rfl, rfl⟩, ⟨rfl, rfl, rfl⟩, ⟨rfl, rfl, rfl⟩,
    ⟨rfl, rfl, rfl, rfl, rfl⟩⟩

/-- Two states of the same block differ in the host's side of the bus alone (R46). -/
theorem SameBlock.exists_withBus {s t : State} (h : SameBlock s t) :
    ∃ (p : List BusEvent) (r : List Response), t = { s with pending := p, responses := r } := by
  obtain ⟨engine, ⟨⟩, ⟨⟩, ⟨⟩, ⟨⟩, ⟨⟩⟩ := h
  exact ⟨t.pending, t.responses, by cases t; simp_all⟩

theorem SameBlock.trans {s t u : State} (hst : SameBlock s t) (htu : SameBlock t u) : SameBlock s u := by
  obtain ⟨p, r, rfl⟩ := hst.exists_withBus
  obtain ⟨p', r', rfl⟩ := htu.exists_withBus
  exact sameBlock_withBus s p' r'

/-- What R70 keeps from every access but a command: all of the block but DATA and the staging registers. -/
def SameEngine (s t : State) : Prop :=
  t.engine = s.engine ∧ SameActive s t ∧ SameWorking s t ∧ SameDigest s t ∧ SameError s t

theorem SameBlock.sameEngine {s t : State} (h : SameBlock s t) : SameEngine s t :=
  ⟨h.engine, h.active, h.working, h.digest, h.error⟩

theorem SameEngine.trans_sameBlock {s t u : State} (hst : SameEngine s t) (htu : SameBlock t u) : SameEngine s u := by
  obtain ⟨p, r, rfl⟩ := htu.exists_withBus
  obtain ⟨engine, ⟨⟩, ⟨⟩, ⟨⟩, ⟨⟩⟩ := hst
  refine ⟨engine, ?_, ?_, ?_, ?_⟩ <;> constructor <;> assumption

theorem writeReg_sameEngine (s : State) (r : Reg) (v : Word) : SameEngine s (writeReg s r v) := by
  obtain ⟨engine, active, working, digest, error, -⟩ := writeReg_frame s r v
  exact ⟨engine, active, working, digest, error⟩

/-! ### An accepted write -/

/-- A write to CMD completes, whatever the word, and leaves the host's side of the bus (R68). -/
theorem issueCommand_next (w : Word) (s : State) : ∃ t : State, issueCommand w s = .next t ∧ SameBus s t := by
  unfold issueCommand
  split
  · exact ⟨_, rfl, (raiseError_sameButError .illegalCmd .none w s).bus⟩
  · exact exec_next _ s

theorem writeWord_next (offset : BitVec 12) (v : Word) (s : State) :
    ∃ t : State, writeWord offset v s = .next t ∧ SameBus s t := by
  unfold writeWord
  split
  · exact issueCommand_next v s
  · obtain ⟨-, -, -, -, -, bus⟩ := writeReg_frame s (regAt offset) v
    exact ⟨_, rfl, bus⟩

theorem issueCommand_withBus {w : Word} {s t : State} (h : issueCommand w s = .next t) (p : List BusEvent)
    (r : List Response) :
    issueCommand w { s with pending := p, responses := r } = .next { t with pending := p, responses := r } := by
  unfold issueCommand at h ⊢
  split at h
  · cases h; rw [raiseError_withBus]
  · exact exec_withBus h p r

theorem writeReg_withBus (s : State) (reg : Reg) (v : Word) (p : List BusEvent) (r : List Response) :
    writeReg { s with pending := p, responses := r } reg v
      = { writeReg s reg v with pending := p, responses := r } := by
  cases reg <;> rfl

theorem writeWord_withBus {offset : BitVec 12} {v : Word} {s t : State} (h : writeWord offset v s = .next t)
    (p : List BusEvent) (r : List Response) :
    writeWord offset v { s with pending := p, responses := r } = .next { t with pending := p, responses := r } := by
  unfold writeWord at h ⊢
  split at h
  · exact issueCommand_withBus h p r
  · cases h; rw [writeReg_withBus]

/-! ### An accepted event -/

/-- How the block answers an accepted event: a read with the register's value, a write with its completion, and the platform's
reset not at all (R69, R71). -/
def answersOf (s : State) : BusEvent → List Response
  | .read _ offset => [.readDone (readReg s (regAt offset))]
  | .write _ _ _ => [.writeDone]
  | .reset => []

theorem answersOf_of_sameBlock {s t : State} (h : SameBlock s t) (e : BusEvent) : answersOf t e = answersOf s e := by
  cases e with
  | read size offset => simp [answersOf, readReg_of_sameBlock h]
  | write size offset v => rfl
  | reset => rfl

/-- An accepted event completes, whatever the host does on a bus error, and adds its answers to the earlier ones (R68, R71). -/
theorem handleEvent_accepted {e : BusEvent} (h : accepted e = true) (effect : BusErrorEffect) (s : State) :
    ∃ t : State, handleEvent effect e s = .next t ∧ t.pending = s.pending
      ∧ t.responses = s.responses ++ answersOf s e := by
  cases e with
  | read size offset => exact ⟨_, if_pos h, rfl, rfl⟩
  | write size offset v =>
    obtain ⟨t, ht, bus⟩ := writeWord_next offset v (respond .writeDone s)
    exact ⟨t, (if_pos h).trans ht, bus.pending, bus.responses⟩
  | reset => exact ⟨_, rfl, rfl, (List.append_nil _).symm⟩

/-- An event that is not accepted is a bus error (R62). -/
theorem handleEvent_rejected {e : BusEvent} (h : accepted e = false) (effect : BusErrorEffect) (s : State) :
    handleEvent effect e s = busErrorOn effect e s := by
  cases e with
  | read size offset => exact if_neg (Bool.eq_false_iff.1 h)
  | write size offset v => exact if_neg (Bool.eq_false_iff.1 h)
  | reset => cases h

/-- What an accepted event does to the block depends on the block alone. -/
theorem handleEvent_of_sameBlock {e : BusEvent} (he : accepted e = true) {effect : BusErrorEffect} {s s' t : State}
    (hs : SameBlock s s') (ht : handleEvent effect e s = .next t) :
    ∃ t' : State, handleEvent effect e s' = .next t' ∧ SameBlock t t' := by
  obtain ⟨p, r, rfl⟩ := hs.exists_withBus
  cases e with
  | read size offset =>
    cases (if_pos he).symm.trans ht
    exact ⟨_, if_pos he, sameBlock_withBus ..⟩
  | write size offset v =>
    have written : writeWord offset v (respond .writeDone s) = .next t := (if_pos he).symm.trans ht
    have again := writeWord_withBus written p (r ++ [.writeDone])
    exact ⟨_, (if_pos he).trans again, sameBlock_withBus ..⟩
  | reset =>
    cases ht
    exact ⟨_, rfl, sameBlock_withBus ..⟩

/-! ### A bus error -/

theorem accepted_eq_false {size : AccessSize} {offset : BitVec 12} (v : Word)
    (h : size ≠ .word ∨ offset.toNat % 4 ≠ 0) :
    accepted (.read size offset) = false ∧ accepted (.write size offset v) = false := by
  have rejected : acceptsAccess size offset = false := by
    rw [Bool.eq_false_iff, ne_eq, acceptsAccess_iff]
    tauto
  exact ⟨rejected, rejected⟩

/-- A host that goes on after a bus error finds the block as it was (R62, R189). -/
theorem busErrorOn_sameBlock {effect : BusErrorEffect} {e : BusEvent} {s t : State}
    (h : busErrorOn effect e s = .next t) : SameBlock s t := by
  cases effect with
  | abort => cases h
  | proceed => cases h; exact sameBlock_withBus ..
  | trap handler => cases h; exact sameBlock_withBus ..

/-- Settles O8: such an access is not accepted, and a bus error answers it and leaves the block. -/
theorem badAccessGetsABusError : Obligations.BadAccessGetsABusError := by
  intro s e rest size offset v hp bad he
  obtain ⟨badRead, badWrite⟩ := accepted_eq_false v bad
  have rejected : accepted e = false := by
    rcases he with rfl | rfl
    · exact badRead
    · exact badWrite
  have answer : errorResponse e = if e = .read size offset then .readError 0 else .writeError := by
    rcases he with rfl | rfl
    · rw [if_pos rfl]; rfl
    · rw [if_neg nofun]; rfl
  have busError (effect : BusErrorEffect) : stepOn effect s = busErrorOn effect e { s with pending := rest } :=
    (stepOn_cons effect s e rest hp).trans (handleEvent_rejected rejected effect _)
  rw [← answer]
  exact ⟨busError .abort, ⟨_, busError .proceed, sameBlock_withBus .., rfl, rfl⟩,
    fun handler => ⟨_, busError (.trap handler), sameBlock_withBus .., rfl, rfl⟩⟩

/-! ### A step -/

theorem step_accepted {s : State} {e : BusEvent} {rest : List BusEvent} (hp : s.pending = e :: rest)
    (he : accepted e = true) :
    ∃ t : State, step s = .next t ∧ t.pending = rest ∧ t.responses = s.responses ++ answersOf s e := by
  obtain ⟨t, ht, pending, responses⟩ := handleEvent_accepted he .abort { s with pending := rest }
  rw [answersOf_of_sameBlock (sameBlock_withBus s rest s.responses)] at responses
  exact ⟨t, (stepOn_cons .abort s e rest hp).trans ht, pending, responses⟩

/-- A step with an event on the bus answers only if the event is accepted (R62). -/
theorem accepted_of_step {s t : State} {e : BusEvent} {rest : List BusEvent} (hp : s.pending = e :: rest)
    (ht : step s = .next t) : accepted e = true := by
  cases he : accepted e with
  | true => rfl
  | false =>
    have fault : step s = .fault (.busError e) :=
      (stepOn_cons .abort s e rest hp).trans (handleEvent_rejected he .abort _)
    cases fault.symm.trans ht

/-- A step that answers takes its event from the bus and adds the event's answers (R68, R71). -/
theorem step_bus {s t : State} {e : BusEvent} {rest : List BusEvent} (hp : s.pending = e :: rest)
    (ht : step s = .next t) : t.pending = rest ∧ t.responses = s.responses ++ answersOf s e := by
  obtain ⟨t', ht', bus⟩ := step_accepted hp (accepted_of_step hp ht)
  cases ht'.symm.trans ht
  exact bus

theorem stepOn_ne_refused (effect : BusErrorEffect) (s : State) (r : Refusal) : stepOn effect s ≠ .refused r := by
  cases hp : s.pending with
  | nil => rw [stepOn_nil effect s hp]; exact nofun
  | cons e rest =>
    rw [stepOn_cons effect s e rest hp]
    cases he : accepted e with
    | true =>
      obtain ⟨t, ht, -⟩ := handleEvent_accepted he effect { s with pending := rest }
      rw [ht]; exact nofun
    | false =>
      rw [handleEvent_rejected he]
      cases effect <;> exact nofun

/-- Settles O7: an accepted event completes and takes nothing else from the bus. -/
theorem acceptedEventsAlwaysComplete : Obligations.AcceptedEventsAlwaysComplete := by
  refine ⟨fun s safe => ?_, stepOn_ne_refused⟩
  cases hp : s.pending with
  | nil => exact ⟨s, stepOn_nil .abort s hp, safe⟩
  | cons e rest =>
    unfold SafeBus at safe ⊢
    rw [hp, List.forall_mem_cons] at safe
    obtain ⟨t, ht, pending, -⟩ := step_accepted hp safe.1
    exact ⟨t, ht, pending ▸ safe.2⟩

/-- The bus delivers an accepted read: its answer is all that it adds (R69). -/
theorem stepOn_read (effect : BusErrorEffect) {s : State} {rest : List BusEvent} {offset : BitVec 12}
    (hp : s.pending = .read .word offset :: rest) (aligned : offset.toNat % 4 = 0) :
    stepOn effect s
      = .next { s with pending := rest, responses := s.responses ++ [.readDone (readReg s (regAt offset))] } := by
  rw [stepOn_cons effect s _ rest hp, ← readReg_of_sameBlock (sameBlock_withBus s rest s.responses)]
  exact if_pos ((acceptsAccess_iff _ _).2 ⟨rfl, aligned⟩)

/-- Settles O9: the step changes the host's side of the bus alone. -/
theorem readsHaveNoSideEffect : Obligations.ReadsHaveNoSideEffect := by
  intro s rest offset hp aligned
  have block := sameBlock_withBus s rest (s.responses ++ [.readDone (readReg s (regAt offset))])
  exact ⟨_, stepOn_read .abort hp aligned, block, readReg_of_sameBlock block, rfl, rfl⟩

theorem regAt_eq_cmd_iff {offset : BitVec 12} (aligned : offset.toNat % 4 = 0) : regAt offset = .cmd ↔ offset = 0x008 :=
  regAt_eq_iff aligned (r := .cmd) nofun

/-- The bus delivers an accepted write outside CMD: a register write (R64). -/
theorem stepOn_writeReg (effect : BusErrorEffect) {s : State} {rest : List BusEvent} {offset : BitVec 12} {v : Word}
    (hp : s.pending = .write .word offset v :: rest) (aligned : offset.toNat % 4 = 0) (hcmd : offset ≠ 0x008) :
    stepOn effect s
      = .next { writeReg s (regAt offset) v with pending := rest, responses := s.responses ++ [.writeDone] } := by
  have reg : regAt offset ≠ .cmd := mt (regAt_eq_cmd_iff aligned).1 hcmd
  rw [stepOn_cons effect s _ rest hp, ← writeReg_withBus]
  exact (if_pos ((acceptsAccess_iff _ _).2 ⟨rfl, aligned⟩)).trans (writeWord_reg offset v _ reg)

/-- The offsets of DATA, the parameters and CFG name those registers. -/
theorem regAt_mem_writable_iff {offset : BitVec 12} (aligned : offset.toNat % 4 = 0) :
    regAt offset ∈ [.data, .polyLo, .polyHi, .initLo, .initHi, .xoroutLo, .xoroutHi]
      ↔ offset ∈ [0x00C, 0x018, 0x01C, 0x020, 0x024, 0x028, 0x02C] := by
  simp [regAt_eq_iff aligned, regOffset]

/-- Settles O10: of the register write, with the bus beside it. -/
theorem registerWritesStoreTheWritableBits : Obligations.RegisterWritesStoreTheWritableBits := by
  intro s rest offset v hp aligned hcmd
  have block := sameBlock_withBus (writeReg s (regAt offset) v) rest (s.responses ++ [.writeDone])
  refine ⟨_, stepOn_writeReg .abort hp aligned hcmd, rfl, rfl, fun r hr => ?others, ?written,
    (writeReg_sameEngine s (regAt offset) v).trans_sameBlock block⟩
  case others => exact (readReg_of_sameBlock block r).trans (readReg_writeReg_of_ne s hr v)
  case written =>
    have cfg : regAt offset = .cfg ↔ offset = 0x010 := regAt_eq_iff aligned nofun
    rw [readReg_of_sameBlock block, readReg_writeReg_self]
    simp only [regAt_mem_writable_iff aligned, cfg]

/-- Settles O11: reads and bus errors leave the block, and a write outside CMD leaves all but DATA and the staging registers. -/
theorem onlyCommandsAndResetChangeTheEngine : Obligations.OnlyCommandsAndResetChangeTheEngine := by
  intro effect s t ht
  cases hp : s.pending with
  | nil =>
    cases (stepOn_nil effect s hp).symm.trans ht
    exact .inl (SameBlock.refl s).sameEngine
  | cons e rest =>
    have event := (stepOn_cons effect s e rest hp).symm.trans ht
    cases he : accepted e with
    | false =>
      have error := busErrorOn_sameBlock ((handleEvent_rejected he effect _).symm.trans event)
      exact .inl ((sameBlock_withBus s rest s.responses).trans error).sameEngine
    | true =>
      cases e with
      | read size offset =>
        obtain ⟨rfl, aligned⟩ := (acceptsAccess_iff size offset).1 he
        cases (stepOn_read effect hp aligned).symm.trans ht
        exact .inl (sameBlock_withBus ..).sameEngine
      | write size offset v =>
        obtain ⟨rfl, aligned⟩ := (acceptsAccess_iff size offset).1 he
        by_cases hcmd : offset = 0x008
        · exact .inr ⟨rest, .inr ⟨v, by rw [hcmd]⟩⟩
        · cases (stepOn_writeReg effect hp aligned hcmd).symm.trans ht
          exact .inl ((writeReg_sameEngine s (regAt offset) v).trans_sameBlock (sameBlock_withBus ..))
      | reset => exact .inr ⟨rest, .inl rfl⟩

end Sys2Proof.Machine
end

section
/-! PROOF. Runs of the bus, and a second master that only reads (20_memory.md R68 to R72). -/

namespace Sys2Proof.Machine

/-! ### Runs -/

/-- `run` goes on from a step that answers. -/
theorem run_succ_of_step {s t : State} (h : step s = .next t) (n : Nat) : run (n + 1) s = run n t := by
  rw [run, h]

/-- A run that answers made a first step that did. -/
theorem step_of_run_succ {n : Nat} {s u : State} (h : run (n + 1) s = .next u) :
    ∃ t : State, step s = .next t ∧ run n t = .next u := by
  rw [run] at h
  split at h
  next t ht => exact ⟨t, ht, h⟩
  · cases h
  · cases h

theorem run_add (m n : Nat) (s : State) :
    run (m + n) s
      = match run m s with
        | .next t => run n t
        | .fault r => .fault r
        | .refused r => .refused r := by
  induction m generalizing s with
  | zero => rw [Nat.zero_add]; rfl
  | succ m ih =>
    rw [Nat.add_right_comm, run, run]
    cases step s with
    | next t => exact ih t
    | fault r => rfl
    | refused r => rfl

/-- Settles O59: only an accepted event lets the step answer, and its answers are one for an access and none for reset. -/
theorem eachStepDeliversTheNextEvent : Obligations.EachStepDeliversTheNextEvent := by
  refine ⟨fun s t e rest hp ht => ?_, run_add⟩
  obtain ⟨pending, responses⟩ := step_bus hp ht
  refine ⟨pending, ?_, fun access => ?_⟩
  · rintro rfl
    rw [responses, answersOf, List.append_nil]
  · cases e with
    | read size offset => exact ⟨_, responses⟩
    | write size offset v => exact ⟨_, responses⟩
    | reset => contradiction

/-! ### Two masters -/

theorem step_of_sameBlock {s s' t : State} {e : BusEvent} {rest rest' : List BusEvent} (hs : SameBlock s s')
    (hp : s.pending = e :: rest) (hp' : s'.pending = e :: rest') (ht : step s = .next t) :
    ∃ t' : State, step s' = .next t' ∧ SameBlock t t' := by
  have before : SameBlock { s with pending := rest } { s' with pending := rest' } := by
    obtain ⟨p, r, rfl⟩ := hs.exists_withBus
    exact sameBlock_withBus ..
  have event := (stepOn_cons .abort s e rest hp).symm.trans ht
  obtain ⟨t', ht', after⟩ := handleEvent_of_sameBlock (accepted_of_step hp ht) before event
  exact ⟨t', (stepOn_cons .abort s' e rest' hp').trans ht', after⟩

theorem step_read_sameBlock {s t : State} {size : AccessSize} {offset : BitVec 12} {rest : List BusEvent}
    (hp : s.pending = .read size offset :: rest) (ht : step s = .next t) : SameBlock s t := by
  obtain ⟨rfl, aligned⟩ := (acceptsAccess_iff size offset).1 (accepted_of_step hp ht)
  cases (stepOn_read .abort hp aligned).symm.trans ht
  exact sameBlock_withBus ..

/-- Of the answers that begin with those to the first event, its own master gets them and no other does. -/
theorem answersTo_cons (m n : Master) (e : BusEvent) (z : List (Master × BusEvent)) (s : State) (rs : List Response) :
    answersTo m ((n, e) :: z) (answersOf s e ++ rs) = (if n = m then answersOf s e else []) ++ answersTo m z rs := by
  cases e with
  | read size offset => simp only [answersOf, List.singleton_append, answersTo]; split <;> rfl
  | write size offset v => simp only [answersOf, List.singleton_append, answersTo]; split <;> rfl
  | reset => simp [answersOf, answersTo]

/-- By induction on the bus order: the first master's run and the interleaved one go on from two states of the same block,
each with its own bus (R69, R72). -/
theorem run_busOrder {z : List (Master × BusEvent)} (reads : ∀ e ∈ issuedBy .second z, isRead e = true ∧ accepted e = true)
    {s s' t : State} (hs : SameBlock s s') (hp : s.pending = issuedBy .first z) (hp' : s'.pending = busOrder z)
    (ht : run (issuedBy .first z).length s = .next t) :
    ∃ (u : State) (alone both : List Response), run z.length s' = .next u ∧ SameBlock t u
      ∧ t.responses = s.responses ++ alone ∧ u.responses = s'.responses ++ both ∧ answersTo .first z both = alone := by
  induction z generalizing s s' with
  | nil =>
    cases ht
    exact ⟨s', [], [], rfl, hs, (List.append_nil _).symm, (List.append_nil _).symm, rfl⟩
  | cons item z ih =>
    obtain ⟨m, e⟩ := item
    cases m with
    | first =>
      obtain ⟨s₁, hs₁, hrun⟩ := step_of_run_succ ht
      obtain ⟨s₁', hs₁', block⟩ := step_of_sameBlock hs hp hp' hs₁
      obtain ⟨pending, answers⟩ := step_bus hp hs₁
      obtain ⟨pending', answers'⟩ := step_bus hp' hs₁'
      obtain ⟨u, alone, both, run', same, halone, hboth, hanswers⟩ := ih reads block pending pending' hrun
      refine ⟨u, answersOf s e ++ alone, answersOf s' e ++ both, (run_succ_of_step hs₁' _).trans run', same, ?_, ?_, ?_⟩
      · rw [halone, answers, List.append_assoc]
      · rw [hboth, answers', List.append_assoc]
      · rw [answersTo_cons, hanswers, if_pos rfl, answersOf_of_sameBlock hs]
    | second =>
      obtain ⟨⟨hread, he⟩, hrest⟩ := List.forall_mem_cons.1 reads
      obtain ⟨s₁', hs₁', pending', answers'⟩ := step_accepted hp' he
      have block : SameBlock s' s₁' := by
        cases e with
        | read size offset => exact step_read_sameBlock hp' hs₁'
        | write size offset v => cases hread
        | reset => cases hread
      obtain ⟨u, alone, both, run', same, halone, hboth, hanswers⟩ := ih hrest (hs.trans block) hp pending' ht
      refine ⟨u, alone, answersOf s' e ++ both, (run_succ_of_step hs₁' _).trans run', same, halone, ?_, ?_⟩
      · rw [hboth, answers', List.append_assoc]
      · rw [answersTo_cons, hanswers, if_neg nofun, List.nil_append]

/-- Settles O56: both runs start from the same block. -/
theorem aReadingMasterIsInvisible : Obligations.AReadingMasterIsInvisible := by
  intro s t z reads ht
  have same : SameBlock { s with pending := issuedBy .first z } { s with pending := busOrder z } :=
    sameBlock_withBus { s with pending := issuedBy .first z } (busOrder z) s.responses
  exact run_busOrder (s := { s with pending := issuedBy .first z }) reads same rfl rfl ht

end Sys2Proof.Machine
end

section
/-! PROOF. The decoder and the encoder of 30_encoding.md R83, R84: which word is which command's, and which words are none's. -/

namespace Sys2Proof

/-! ### The operands of formats B and N (R81, R82) -/

/-- A field of the word that lies in OPERAND is that field of OPERAND. -/
theorem extractLsb'_commandWord (op : BitVec 8) (x : BitVec 24) {a n : Nat} (h : a + n ≤ 24) :
    (commandWord op x).extractLsb' a n = x.extractLsb' a n :=
  BitVec.extractLsb'_append_eq_of_add_le h

/-- The low `k` bits of OPERAND are all of it exactly when the bits above them, which the format reserves, are 0. -/
theorem operandField_eq_setWidth_iff (w : Word) {k n : Nat} (hk : k + n = 24) :
    operandField w = (w.extractLsb' 0 k).setWidth 24 ↔ w.extractLsb' k n = 0 := by
  constructor
  · intro h
    refine BitVec.eq_of_getLsbD_eq fun i hi => ?_
    have bit := congrArg (BitVec.getLsbD · (k + i)) h
    have inside : k + i < 24 := by omega
    simpa [operandField, hi, inside] using bit
  · intro h
    refine BitVec.eq_of_getLsbD_eq fun i hi => ?_
    by_cases low : i < k
    · simp [operandField, hi, low]
    · have bit := congrArg (BitVec.getLsbD · (i - k)) h
      have inside : i - k < n := by omega
      have place : k + (i - k) = i := by omega
      simpa [operandField, hi, low, inside, place] using bit

/-- A word is known by the number of its OPCODE and by its OPERAND. -/
theorem commandWord_eq {w : Word} {op : BitVec 8} {x : BitVec 24} (hop : (opcodeField w).toNat = op.toNat)
    (hx : operandField w = x) : commandWord op x = w := by
  rw [← BitVec.eq_of_toNat_eq hop, ← hx, commandWord_fields]

/-! ### Decoding and encoding are inverse -/

theorem feedData_wellFormed_iff (n : Nat) : (Instr.feedData n).wellFormed = true ↔ 1 ≤ n ∧ n ≤ 4 := by
  simp [Instr.wellFormed]

/-- FEED_IMM's OPCODE selects format B (R84). -/
theorem decode_commandWord_feedImm (x : BitVec 24) : decode (commandWord 0x03 x) = decodeB (commandWord 0x03 x) := by
  simp [decode]

/-- A command's own word decodes to it. -/
theorem decode_encode {i : Instr} (h : i.wellFormed = true) : decode (encode i) = .ok i := by
  cases i with
  | feedImm b =>
    have reserved : (b.setWidth 24).extractLsb' 8 16 = 0 := BitVec.eq_of_getLsbD_eq fun i hi => by simp
    have operand : (b.setWidth 24).extractLsb' 0 8 = b :=
      (BitVec.extractLsb'_setWidth_of_le (by decide)).trans BitVec.extractLsb'_eq_self
    rw [encode, decode_commandWord_feedImm, decodeB_eq_ok_iff, extractLsb'_commandWord _ _ (by decide), byteField,
      extractLsb'_commandWord _ _ (by decide), operand]
    exact ⟨reserved, rfl⟩
  | feedData n =>
    obtain ⟨hl, hh⟩ := (feedData_wellFormed_iff n).1 h
    obtain rfl | rfl | rfl | rfl : n = 1 ∨ n = 2 ∨ n = 3 ∨ n = 4 := by omega
    all_goals rfl
  | nop | configure | start | final | clearErr | softReset => rfl

/-- A word of format Z is the command's own word, when OPCODE is the command's. -/
theorem encode_of_decodeZ {w : Word} {i j : Instr} {op : BitVec 8} (hop : (opcodeField w).toNat = op.toNat)
    (hi : i.wellFormed = true ∧ encode i = commandWord op 0) (h : decodeZ w i = .ok j) :
    j.wellFormed = true ∧ encode j = w := by
  obtain ⟨operand, rfl⟩ := decodeZ_eq_ok_iff.1 h
  exact ⟨hi.1, hi.2.trans (commandWord_eq hop operand)⟩

/-- A word that decodes is the command's own word. -/
theorem encode_of_decode {w : Word} {i : Instr} (h : decode w = .ok i) : i.wellFormed = true ∧ encode i = w := by
  unfold decode at h
  split at h
  next hop => exact encode_of_decodeZ (op := 0x00) hop ⟨rfl, rfl⟩ h
  next hop => exact encode_of_decodeZ (op := 0x01) hop ⟨rfl, rfl⟩ h
  next hop => exact encode_of_decodeZ (op := 0x02) hop ⟨rfl, rfl⟩ h
  next hop =>
    obtain ⟨reserved, rfl⟩ := decodeB_eq_ok_iff.1 h
    exact ⟨rfl, commandWord_eq hop ((operandField_eq_setWidth_iff w rfl).2 reserved)⟩
  next hop =>
    obtain ⟨reserved, rfl⟩ := decodeN_eq_ok_iff.1 h
    have count := (nm1Field w).isLt
    refine ⟨(feedData_wellFormed_iff _).2 ⟨by omega, by omega⟩, ?_⟩
    rw [encode, Nat.add_sub_cancel, BitVec.ofNat_toNat, BitVec.setWidth_eq]
    exact commandWord_eq hop ((operandField_eq_setWidth_iff w rfl).2 reserved)
  next hop => exact encode_of_decodeZ (op := 0x05) hop ⟨rfl, rfl⟩ h
  next hop => exact encode_of_decodeZ (op := 0x06) hop ⟨rfl, rfl⟩ h
  next hop => exact encode_of_decodeZ (op := 0x07) hop ⟨rfl, rfl⟩ h
  · cases h

/-- Settles O4: format by format. -/
theorem decodeAndEncodeAgree : Obligations.DecodeAndEncodeAgree :=
  ⟨fun _ => decode_encode, fun _ _ => encode_of_decode⟩

theorem decode_eq_ok_iff {w : Word} {i : Instr} : decode w = .ok i ↔ i.wellFormed = true ∧ encode i = w := by
  constructor
  · exact encode_of_decode
  · rintro ⟨wellFormed, rfl⟩
    exact decode_encode wellFormed

/-- Settles O1: each word is its command's encoding. -/
theorem writtenWordsDecodeToTheirCommands : Obligations.WrittenWordsDecodeToTheirCommands :=
  ⟨decode_encode (i := .nop) rfl, decode_encode (i := .configure) rfl, decode_encode (i := .start) rfl,
    decode_encode (i := .feedImm 0x61) rfl, decode_encode (i := .feedImm 0xFF) rfl, decode_encode (i := .feedData 1) rfl,
    decode_encode (i := .feedData 4) rfl, decode_encode (i := .final) rfl, decode_encode (i := .clearErr) rfl,
    decode_encode (i := .softReset) rfl⟩

/-! ### The words of each row (R83) -/

theorem commandWord_toNat (op : BitVec 8) (x : BitVec 24) : (commandWord op x).toNat = op.toNat * 2 ^ 24 + x.toNat := by
  rw [commandWord, BitVec.toNat_append, ← Nat.shiftLeft_add_eq_or_of_lt x.isLt, Nat.shiftLeft_eq]

theorem encode_feedImm_toNat (b : Byte) : (encode (.feedImm b)).toNat = 0x03000000 + b.toNat := by
  rw [encode, commandWord_toNat, BitVec.toNat_setWidth_of_le (by decide)]
  rfl

theorem encode_feedData_toNat {n : Nat} (h : n ≤ 4) : (encode (.feedData n)).toNat = 0x04000000 + (n - 1) := by
  rw [encode, commandWord_toNat, BitVec.toNat_setWidth_of_le (by decide), BitVec.toNat_ofNat,
    Nat.mod_eq_of_lt (by omega)]
  rfl

theorem encode_feedImm (b : Byte) : encode (.feedImm b) = 0x03000000 + b.setWidth 32 := by
  have := encode_feedImm_toNat b
  bv_omega

theorem encode_feedData {n : Nat} (h : n ≤ 4) : encode (.feedData n) = 0x04000000 + BitVec.ofNat 32 (n - 1) := by
  have := encode_feedData_toNat h
  bv_omega

/-- Settles O2: a word decodes to a command exactly when it is the command's encoding. -/
theorem decodeGivesEachCommandItsOneWord : Obligations.DecodeGivesEachCommandItsOneWord := by
  intro w
  have fixed {i : Instr} (h : i.wellFormed = true) : decode w = .ok i ↔ w = encode i := by
    rw [decode_eq_ok_iff, eq_comm (a := w)]
    exact and_iff_right h
  refine ⟨fixed rfl, fixed rfl, fixed rfl, fun b => ?feedImm, fun n => ?feedData, fixed rfl, fixed rfl, fixed rfl⟩
  case feedImm => rw [fixed rfl, encode_feedImm]
  case feedData =>
    rw [decode_eq_ok_iff, feedData_wellFormed_iff, and_assoc, eq_comm (b := w)]
    exact and_congr_right fun _ => and_congr_right fun hh => by rw [encode_feedData hh]

/-! ### The illegal words (R85) -/

/-- Keeping the bits from `k` up rounds a word down to a multiple of `2 ^ k`. -/
theorem and_allOnes_shiftLeft_toNat (w : Word) (k : Nat) :
    (w &&& BitVec.allOnes 32 <<< k).toNat = w.toNat / 2 ^ k * 2 ^ k := by
  have cleared : w &&& BitVec.allOnes 32 <<< k = (w >>> k) <<< k := by
    rw [BitVec.shiftLeft_ushiftRight]
  rw [cleared, BitVec.toNat_shiftLeft, BitVec.toNat_ushiftRight, Nat.shiftLeft_eq, Nat.shiftRight_eq_div_pow]
  exact Nat.mod_eq_of_lt ((Nat.div_mul_le_self ..).trans_lt w.isLt)

/-- A row whose operand field is the low `k` bits matches the words that agree with its match bits above them. -/
theorem rowMatches_iff (name : String) (m w : Word) (k : Nat) :
    rowMatches ⟨name, m, BitVec.allOnes 32 <<< k⟩ w = true ↔ w.toNat / 2 ^ k * 2 ^ k = m.toNat := by
  rw [rowMatches, beq_iff_eq, ← BitVec.toNat_inj, and_allOnes_shiftLeft_toNat]

theorem rowMatches_fixed_iff (name : String) (m w : Word) : rowMatches ⟨name, m, 0xFFFFFFFF⟩ w = true ↔ w = m := by
  rw [← BitVec.toNat_inj]
  simpa using rowMatches_iff name m w 0

theorem rowMatches_feedImm_iff (w : Word) :
    rowMatches ⟨"FEED_IMM", 0x03000000, 0xFFFFFF00⟩ w = true ↔ ∃ b : Byte, encode (.feedImm b) = w := by
  refine (rowMatches_iff _ _ w 8).trans ⟨fun h => ⟨BitVec.ofNat 8 w.toNat, BitVec.eq_of_toNat_eq ?_⟩, ?_⟩
  · rw [encode_feedImm_toNat, BitVec.toNat_ofNat]
    change _ = 0x03000000 at h
    omega
  · rintro ⟨b, rfl⟩
    rw [encode_feedImm_toNat]
    change _ = 0x03000000
    omega

theorem rowMatches_feedData_iff (w : Word) :
    rowMatches ⟨"FEED_DATA", 0x04000000, 0xFFFFFFFC⟩ w = true ↔ ∃ n : Nat, 1 ≤ n ∧ n ≤ 4 ∧ encode (.feedData n) = w := by
  refine (rowMatches_iff _ _ w 2).trans ⟨fun h => ⟨w.toNat % 4 + 1, by omega, by omega, BitVec.eq_of_toNat_eq ?_⟩, ?_⟩
  · rw [encode_feedData_toNat (by omega)]
    change _ = 0x04000000 at h
    omega
  · rintro ⟨n, hl, hh, rfl⟩
    rw [encode_feedData_toNat hh]
    change _ = 0x04000000
    omega

/-- A word that a row matches is a command's. -/
theorem exists_decode_of_rowMatches {r : OpcodeRow} (hr : r ∈ opcodeMap) {w : Word} (h : rowMatches r w = true) :
    ∃ i : Instr, decode w = .ok i := by
  have fixed {i : Instr} (hi : i.wellFormed = true) {name : String}
      (hw : rowMatches ⟨name, encode i, 0xFFFFFFFF⟩ w = true) : ∃ i : Instr, decode w = .ok i :=
    ⟨i, decode_eq_ok_iff.2 ⟨hi, ((rowMatches_fixed_iff ..).1 hw).symm⟩⟩
  simp only [opcodeMap, List.mem_cons, List.not_mem_nil, or_false] at hr
  obtain rfl | rfl | rfl | rfl | rfl | rfl | rfl | rfl := hr
  · exact fixed (i := .nop) rfl h
  · exact fixed (i := .configure) rfl h
  · exact fixed (i := .start) rfl h
  · obtain ⟨b, hb⟩ := (rowMatches_feedImm_iff w).1 h
    exact ⟨.feedImm b, decode_eq_ok_iff.2 ⟨rfl, hb⟩⟩
  · obtain ⟨n, hl, hh, hn⟩ := (rowMatches_feedData_iff w).1 h
    exact ⟨.feedData n, decode_eq_ok_iff.2 ⟨(feedData_wellFormed_iff n).2 ⟨hl, hh⟩, hn⟩⟩
  · exact fixed (i := .final) rfl h
  · exact fixed (i := .clearErr) rfl h
  · exact fixed (i := .softReset) rfl h

/-- A command's word is matched by a row. -/
theorem exists_rowMatches_of_decode {w : Word} {i : Instr} (h : decode w = .ok i) :
    ∃ r ∈ opcodeMap, rowMatches r w = true := by
  obtain ⟨wellFormed, rfl⟩ := decode_eq_ok_iff.1 h
  cases i with
  | feedImm b => exact ⟨_, by simp [opcodeMap], (rowMatches_feedImm_iff _).2 ⟨b, rfl⟩⟩
  | feedData n =>
    obtain ⟨hl, hh⟩ := (feedData_wellFormed_iff n).1 wellFormed
    exact ⟨_, by simp [opcodeMap], (rowMatches_feedData_iff _).2 ⟨n, hl, hh, rfl⟩⟩
  | nop | configure | start | final | clearErr | softReset => decide

theorem decode_eq_error_iff (w : Word) :
    (∃ e : Reject, decode w = .error e) ↔ ∀ r ∈ opcodeMap, rowMatches r w = false := by
  constructor
  · rintro ⟨e, he⟩ r hr
    refine Bool.eq_false_iff.2 fun matched => ?_
    obtain ⟨i, hi⟩ := exists_decode_of_rowMatches hr matched
    cases he.symm.trans hi
  · intro unmatched
    cases hw : decode w with
    | error e => exact ⟨e, rfl⟩
    | ok i =>
      obtain ⟨r, hr, matched⟩ := exists_rowMatches_of_decode hw
      cases matched.symm.trans (unmatched r hr)

/-- Every row's mask keeps OPCODE, so a row's words have the OPCODE of its match bits. -/
theorem opcodeField_eq_of_rowMatches {r : OpcodeRow} (hr : r ∈ opcodeMap) {w : Word} (h : rowMatches r w = true) :
    opcodeField w = opcodeField r.matchBits := by
  have kept : ∀ r ∈ opcodeMap, opcodeField r.mask = BitVec.allOnes 8 := by decide
  calc opcodeField w
      = opcodeField w &&& opcodeField r.mask := by rw [kept r hr, BitVec.and_allOnes]
    _ = opcodeField (w &&& r.mask) := BitVec.extractLsb'_and.symm
    _ = opcodeField r.matchBits := congrArg opcodeField (beq_iff_eq.1 h)

/-- Settles O3: the rows' words are the commands' words, and no two rows share an OPCODE. -/
theorem illegalWordsAreThoseNoRowMatches : Obligations.IllegalWordsAreThoseNoRowMatches := by
  intro w
  refine ⟨decode_eq_error_iff w, fun r hr r' hr' h h' => ?_⟩
  have opcodes : ∀ r ∈ opcodeMap, ∀ r' ∈ opcodeMap, opcodeField r.matchBits = opcodeField r'.matchBits → r = r' := by
    decide
  exact opcodes r hr r' hr' ((opcodeField_eq_of_rowMatches hr h).symm.trans (opcodeField_eq_of_rowMatches hr' h'))

end Sys2Proof
end

section
/-! PROOF. A write to CMD, delivered by the bus: it runs the command its word decodes to, or records ILLEGAL_CMD (30_encoding.md
R84, R85). -/

namespace Sys2Proof.Machine

theorem issueCommand_of_decode_ok {w : Word} {i : Instr} (h : decode w = .ok i) (s : State) :
    issueCommand w s = exec i s := by
  unfold issueCommand
  rw [h]

theorem issueCommand_of_decode_error {w : Word} {e : Reject} (h : decode w = .error e) (s : State) :
    issueCommand w s = .next (raiseError .illegalCmd .none w s) := by
  unfold issueCommand
  rw [h]

/-- The bus delivers a command's word to CMD. -/
theorem step_command {s : State} {rest : List BusEvent} {w : Word} {i : Instr}
    (hp : s.pending = .write .word 0x008 w :: rest) (h : decode w = .ok i) :
    step s = exec i { s with pending := rest, responses := s.responses ++ [.writeDone] } :=
  (stepOn_cmd .abort s w rest hp).trans (issueCommand_of_decode_ok h _)

/-- Settles O5: `withFetchWord` places such a write. -/
theorem stepRunsTheDecodedCommand : Obligations.StepRunsTheDecodedCommand := by
  refine ⟨fun s rest w i => step_command, fun s w i h => ?_⟩
  have placed : (s.withFetchWord 32 w.toNat).pending = .write .word 0x008 w :: s.pending := by
    have word : BitVec.ofNat 32 (w.toNat % 2 ^ 32) = w := by
      rw [Nat.mod_eq_of_lt w.isLt, BitVec.ofNat_toNat, BitVec.setWidth_eq]
    exact congrArg (BusEvent.write .word 0x008 · :: s.pending) word
  exact step_command placed h

/-- The bus delivers a word to CMD that is no command's. -/
theorem step_illegal {s : State} {rest : List BusEvent} {w : Word} {e : Reject}
    (hp : s.pending = .write .word 0x008 w :: rest) (h : decode w = .error e) :
    step s = .next { raiseError .illegalCmd .none w s with
      pending := rest, responses := s.responses ++ [.writeDone] } := by
  rw [← raiseError_withBus]
  exact (stepOn_cmd .abort s w rest hp).trans (issueCommand_of_decode_error h _)

/-- Settles O6: the step is error capture, with the bus beside it. -/
theorem illegalWordRecordsIllegalCmd : Obligations.IllegalWordRecordsIllegalCmd := by
  intro s rest w hp unmatched
  obtain ⟨e, he⟩ := (decode_eq_error_iff w).2 unmatched
  obtain ⟨err, first, later⟩ := raiseError_captured .illegalCmd .none w s
  obtain ⟨engine, ⟨⟩, ⟨⟩, ⟨⟩, ⟨⟩, -⟩ := raiseError_sameButError .illegalCmd .none w s
  refine ⟨_, step_illegal hp he, ⟨err, first, later⟩, engine, ?_, ?_, ?_, ?_, rfl, rfl⟩ <;> constructor <;> assumption

end Sys2Proof.Machine
end

section
/-! PROOF. The pseudo-instructions of 30_encoding.md R88: `feed`, `cfg.crc`, `cfg.fnv` and `wr64`. -/

namespace Sys2Proof.Machine

/-! ### `feed` -/

/-- The bytes of DATA are its lanes in order (10_state.md R26, 30_encoding.md R82). -/
theorem dataBytes_wordOfLanes (b0 b1 b2 b3 : Byte) {n : Nat} (h : n ≤ 4) :
    dataBytes (wordOfLanes b0 b1 b2 b3) n = [b0, b1, b2, b3].take n := by
  refine List.ext_getElem (by simp [dataBytes, h]) fun j hj _ => ?_
  have inside : j < 4 := by simp [dataBytes] at hj; omega
  have lane := byteLane_wordOfLanes (fun j => [b0, b1, b2, b3].getD j 0) j inside
  simpa [dataBytes, inside] using lane

/-- A write of four lanes to DATA and a FEED_DATA feed the first `n` of the lanes. -/
theorem feeds_group (d : Word) (b0 b1 b2 b3 : Byte) {n : Nat} (hl : 1 ≤ n) (hh : n ≤ 4) {f : List BusEvent}
    {m : List Byte} (h : Feeds (wordOfLanes b0 b1 b2 b3) f m) :
    Feeds d (memWrite (regOffset .data) (wordOfLanes b0 b1 b2 b3) :: commandEvent (.feedData n) :: f)
      ([b0, b1, b2, b3].take n ++ m) := by
  rw [← dataBytes_wordOfLanes b0 b1 b2 b3 hh]
  exact .write _ (.data n hl hh h)

/-- Settles O32, by induction on the groups of the expansion. -/
theorem feedExpansionFeedsItsBytes : Obligations.FeedExpansionFeedsItsBytes := by
  intro d m
  induction m using feedEvents.induct generalizing d with
  | case1 b0 b1 b2 b3 rest ih => exact feeds_group d b0 b1 b2 b3 (n := 4) (by decide) (by decide) (ih _)
  | case2 b0 b1 b2 => exact feeds_group d b0 b1 b2 0 (n := 3) (by decide) (by decide) (.done _)
  | case3 b0 b1 => exact feeds_group d b0 b1 0 0 (n := 2) (by decide) (by decide) (.done _)
  | case4 b0 => exact feeds_group d b0 0 0 0 (n := 1) (by decide) (by decide) (.done _)
  | case5 => exact .done d

/-! ### `cfg.crc` and `cfg.fnv` -/

/-- One bit moved to place `k` of a word is its only bit. -/
theorem getLsbD_flag (b : BitVec 1) (k : Nat) {i : Nat} (hi : i < 32) :
    (b.setWidth 32 <<< k).getLsbD i = (decide (i = k) && b.getLsbD 0) := by
  rw [BitVec.getLsbD_shiftLeft, BitVec.getLsbD_setWidth]
  obtain below | rfl | above : i < k ∨ i = k ∨ k < i := by omega
  · simp [below, below.ne]
  · simp [hi]
  · simp [above.ne', show 1 ≤ i - k by omega]

/-- The bits of `cfg.crc`'s word: the width from bit 8 up, and the three flags in bits 1 to 3. -/
theorem getLsbD_cfgCrcWord (w : Nat) (refin refout : Bool) (order : ByteOrder) {i : Nat} (hi : i < 32) :
    (cfgCrcWord w refin refout order).getLsbD i
      = (decide (8 ≤ i) && w.testBit (i - 8) || decide (i = 1) && refin || decide (i = 2) && refout
          || decide (i = 3) && decide (order = .littleEndian)) := by
  have width : (BitVec.ofNat 32 w <<< 8).getLsbD i = (decide (8 ≤ i) && w.testBit (i - 8)) := by
    have inside : i - 8 < 32 := by omega
    have upper : (!decide (i < 8)) = decide (8 ≤ i) := by rw [← decide_not, decide_eq_decide, Nat.not_lt]
    rw [BitVec.getLsbD_shiftLeft, BitVec.getLsbD_ofNat, decide_eq_true hi, decide_eq_true inside, upper, Bool.true_and,
      Bool.true_and]
  unfold cfgCrcWord
  rw [BitVec.getLsbD_or, BitVec.getLsbD_or, BitVec.getLsbD_or, width, getLsbD_flag _ _ hi,
    getLsbD_flag _ _ hi, getLsbD_flag _ _ hi, ByteOrder.toBit_getLsbD]
  simp

theorem orderOfBit_littleEndian (order : ByteOrder) : orderOfBit (decide (order = .littleEndian)) = order := by
  cases order <;> rfl

/-- The word of `cfg.crc` stores what the line names; CFG keeps seven bits of the width (R27, R88). -/
theorem unpackCfg_cfgCrcWord (w : Nat) (refin refout : Bool) (order : ByteOrder) :
    unpackCfg (cfgCrcWord w refin refout order)
      = { alg := .crc, refin := refin, refout := refout, order := order, fnvWsel := 0, crcWidth := BitVec.ofNat 7 w } := by
  have bit {i : Nat} (hi : i < 32) := getLsbD_cfgCrcWord w refin refout order hi
  have fnvWsel : (cfgCrcWord w refin refout order).extractLsb' 4 3 = 0 := by
    refine BitVec.eq_of_getLsbD_eq fun i hi => ?_
    rw [BitVec.getLsbD_extractLsb', bit (by omega)]
    simp [show ¬ 8 ≤ 4 + i by omega, show 4 + i ≠ 1 by omega, show 4 + i ≠ 2 by omega, show 4 + i ≠ 3 by omega]
  have crcWidth : (cfgCrcWord w refin refout order).extractLsb' 8 7 = BitVec.ofNat 7 w := by
    refine BitVec.eq_of_getLsbD_eq fun i hi => ?_
    rw [BitVec.getLsbD_extractLsb', bit (by omega), BitVec.getLsbD_ofNat]
    simp [hi, show 8 + i ≠ 1 by omega, show 8 + i ≠ 2 by omega, show 8 + i ≠ 3 by omega]
  rw [unpackCfg, fnvWsel, crcWidth, bit (by decide), bit (by decide), bit (by decide), bit (by decide)]
  simp [orderOfBit_littleEndian, algOfBit]

/-- The six widths of R29 and their codes. -/
theorem fnvCode_of_mem {w : Nat} {sel : BitVec 3}
    (h : (w, sel) ∈ [(32, 0), (64, 1), (128, 2), (256, 3), (512, 4), (1024, 5)]) : fnvCode w = some sel := by
  have codes : ∀ p ∈ [(32, (0 : BitVec 3)), (64, 1), (128, 2), (256, 3), (512, 4), (1024, 5)],
      fnvCode p.1 = some p.2 := by decide
  exact codes (w, sel) h

/-- The word of `cfg.fnv` stores ALG = 1 and the code, and 0 elsewhere (R88). -/
theorem unpackCfg_cfgFnvWord (sel : BitVec 3) :
    unpackCfg (cfgFnvWord sel) = { Cfg.zero with alg := .fnv, fnvWsel := sel } := by
  revert sel
  decide

theorem lineEvents_cfgFnv {w : Nat} {sel : BitVec 3} (h : fnvCode w = some sel) :
    lineEvents (.cfgFnv w) = [memWrite 0x010 (cfgFnvWord sel)] := by
  rw [lineEvents, h]
  rfl

/-! ### `wr64` -/

/-- The two register writes of `wr64`. -/
def writeParam (s : State) (p : Param) (v : Word64) : State :=
  writeReg (writeReg s (paramRegs p).1 (v.extractLsb' 0 32)) (paramRegs p).2 (v.extractLsb' 32 32)

/-- The 64-bit parameter of a pair. -/
def paramValue (s : State) : Param → Word64
  | .poly => s.poly
  | .init => s.init
  | .xorout => s.xorout

theorem paramValue_writeParam (s : State) (p : Param) (v : Word64) : paramValue (writeParam s p v) p = v := by
  cases p <;> exact append_halves v

theorem writeParam_data (s : State) (p : Param) (v : Word64) : (writeParam s p v).data = s.data := by
  cases p <;> rfl

theorem writeParam_cfg (s : State) (p : Param) (v : Word64) : (writeParam s p v).cfg = s.cfg := by
  cases p <;> rfl

theorem writeParam_sameEngine (s : State) (p : Param) (v : Word64) : SameEngine s (writeParam s p v) := by
  cases p <;> exact ⟨rfl, ⟨rfl, rfl, rfl, rfl, rfl, rfl, rfl⟩, ⟨rfl, rfl, rfl⟩, ⟨rfl, rfl, rfl⟩,
    ⟨rfl, rfl, rfl, rfl, rfl⟩⟩

/-- The bus delivers a write to a named register other than CMD. -/
theorem step_writeReg {s : State} {rest : List BusEvent} {r : Reg} {v : Word}
    (hp : s.pending = memWrite (regOffset r) v :: rest) (hcmd : r ≠ .cmd) (hres : r ≠ .reserved) :
    step s = .next { writeReg s r v with pending := rest, responses := s.responses ++ [.writeDone] } := by
  obtain ⟨place, aligned⟩ := regAt_regOffset hres
  have outside : regOffset r ≠ 0x008 := by
    rw [ne_eq, ← regAt_eq_cmd_iff aligned, place]
    exact hcmd
  have written := stepOn_writeReg .abort hp aligned outside
  rwa [place] at written

/-- `wr64` is two steps that write the parameter. -/
theorem run_wr64 {s : State} {rest : List BusEvent} {p : Param} {v : Word64}
    (hp : s.pending = lineEvents (.wr64 p v) ++ rest) :
    run 2 s = .next { writeParam s p v with
      pending := rest, responses := s.responses ++ [.writeDone] ++ [.writeDone] } := by
  have named : ∀ p : Param, ∀ r ∈ [(paramRegs p).1, (paramRegs p).2], r ≠ .cmd ∧ r ≠ .reserved := by
    intro p
    cases p <;> decide
  obtain ⟨loCmd, loReserved⟩ := named p (paramRegs p).1 (by simp)
  obtain ⟨hiCmd, hiReserved⟩ := named p (paramRegs p).2 (by simp)
  rw [run_succ_of_step (step_writeReg hp loCmd loReserved), run_succ_of_step (step_writeReg rfl hiCmd hiReserved),
    writeReg_withBus]
  rfl

/-- Settles O33: the words of `cfg.crc` and `cfg.fnv` field by field, and `wr64` by its two steps. -/
theorem pseudoInstructionsStoreWhatTheyName : Obligations.PseudoInstructionsStoreWhatTheyName := by
  refine ⟨fun w refin refout order _ => ⟨_, rfl, unpackCfg_cfgCrcWord w refin refout order⟩,
    fun w sel h => ⟨_, lineEvents_cfgFnv (fnvCode_of_mem h), unpackCfg_cfgFnvWord sel⟩, fun s rest p v hp => ?wr64⟩
  case wr64 =>
    obtain ⟨engine, active, working, digest, error⟩ :=
      (writeParam_sameEngine s p v).trans_sameBlock
        (sameBlock_withBus (writeParam s p v) rest (s.responses ++ [.writeDone] ++ [.writeDone]))
    have value : paramValue (writeParam s p v) p = v := paramValue_writeParam s p v
    refine ⟨_, run_wr64 hp, rfl, ?_, writeParam_data s p v, writeParam_cfg s p v, engine, active, working, digest, error⟩
    cases p <;> exact value

end Sys2Proof.Machine
end

section
/-! PROOF. Reflection is its own inverse (40_crc_engine.md R114). -/

namespace Sys2Proof.Machine

theorem getLsbD_eq_false_of_toNat_lt {m n : Nat} {v : BitVec m} (hv : v.toNat < 2 ^ n) {i : Nat} (hi : n ≤ i) :
    v.getLsbD i = false :=
  Nat.testBit_lt_two_pow (hv.trans_le (Nat.pow_le_pow_right Nat.two_pos hi))

/-- Settles O38: output bit `j` comes from bit `n - 1 - (n - 1 - j)`, and an `n`-bit value has no other bits. -/
theorem reflectTwiceIsTheIdentity : Obligations.ReflectTwiceIsTheIdentity := by
  intro m n v _ hn hv
  refine BitVec.eq_of_getLsbD_eq fun j _ => ?_
  rw [getLsbD_reflect _ hn, getLsbD_reflect _ hn]
  by_cases hj : j < n
  · have back : n - 1 - (n - 1 - j) = j := by omega
    have inside : n - 1 - j < n := by omega
    rw [decide_eq_true hj, decide_eq_true inside, back, Bool.true_and, Bool.true_and]
  · rw [decide_eq_false hj, Bool.false_and, getLsbD_eq_false_of_toNat_lt hv (Nat.le_of_not_lt hj)]

end Sys2Proof.Machine
end

section
/-! PROOF. The CRC table is linear over GF(2) (40_crc_engine.md R104). -/

namespace Sys2Proof.Machine

theorem legalCrcWidth_bounds {w : Nat} (h : legalCrcWidth w = true) : 8 ≤ w ∧ w ≤ 64 := by
  rw [legalCrcWidth_iff] at h
  simp only [List.mem_cons, List.not_mem_nil, or_false] at h
  omega

theorem shiftLeft_and_mask_xor (k w : Nat) (a b : Word64) :
    ((a ^^^ b) <<< k) &&& mask w = ((a <<< k) &&& mask w) ^^^ ((b <<< k) &&& mask w) := by
  rw [BitVec.shiftLeft_xor_distrib]
  exact BitVec.eq_of_toNat_eq Nat.and_xor_distrib_right

/-- One iteration as a sum over GF(2): the masked shift, and P if the top bit was set (R102). -/
theorem crcIterate_eq_xor (w : Nat) (p r : Word64) :
    crcIterate w p r = ((r <<< 1) &&& mask w) ^^^ (if r.getLsbD (w - 1) then p else 0) := by
  unfold crcIterate
  split
  · rfl
  · exact BitVec.xor_zero.symm

theorem crcIterate_xor (w : Nat) (p a b : Word64) :
    crcIterate w p (a ^^^ b) = crcIterate w p a ^^^ crcIterate w p b := by
  have reduction : (if (a ^^^ b).getLsbD (w - 1) then p else 0)
      = (if a.getLsbD (w - 1) then p else 0) ^^^ (if b.getLsbD (w - 1) then p else 0) := by
    rw [BitVec.getLsbD_xor]
    cases a.getLsbD (w - 1) <;> cases b.getLsbD (w - 1) <;> simp
  rw [crcIterate_eq_xor, crcIterate_eq_xor, crcIterate_eq_xor, reduction, shiftLeft_and_mask_xor]
  ac_rfl

theorem crcIterations_xor (w : Nat) (p : Word64) (n : Nat) (a b : Word64) :
    crcIterations w p n (a ^^^ b) = crcIterations w p n a ^^^ crcIterations w p n b := by
  induction n generalizing a b with
  | zero => rfl
  | succ n ih => simp only [crcIterations, crcIterate_xor, ih]

theorem crcSeed_xor (w : Nat) (a b : Byte) : crcSeed w (a ^^^ b) = crcSeed w a ^^^ crcSeed w b := by
  rw [crcSeed, BitVec.setWidth_xor, BitVec.shiftLeft_xor_distrib]
  rfl

theorem crcSeed_zero (w : Nat) : crcSeed w 0 = 0 := (crcSeed_xor w 0 0).trans BitVec.xor_self

theorem crcTableEntry_xor (w : Nat) (p : Word64) (a b : Byte) :
    crcTableEntry w p (a ^^^ b) = crcTableEntry w p a ^^^ crcTableEntry w p b := by
  rw [crcTableEntry, crcSeed_xor, crcIterations_xor]
  rfl

/-- T[0] is T[0 XOR 0], so it is T[0] XOR T[0] (R104). -/
theorem crcTableEntry_zero (w : Nat) (p : Word64) : crcTableEntry w p 0 = 0 :=
  (crcTableEntry_xor w p 0 0).trans BitVec.xor_self

/-- Settles O39, from the linearity of each iteration. -/
theorem tableIsLinear : Obligations.TableIsLinear :=
  fun w p _ hp => ⟨crcTableEntry_zero w p, crcTableEntry_toNat_lt hp, crcTableEntry_xor w p⟩

end Sys2Proof.Machine
end

section
/-! PROOF. The table entry is a remainder of polynomials over GF(2) (40_crc_engine.md R104). -/

namespace Sys2Proof.Machine

open Polynomial

/-! ### The polynomial of a value's low bits -/

/-- The sum of the `x^i` of the set bits of `v` below bit `n`. -/
noncomputable def bitPoly {m : Nat} (n : Nat) (v : BitVec m) : (ZMod 2)[X] :=
  ∑ i ∈ Finset.range n, if v.getLsbD i then X ^ i else 0

theorem bitPoly_succ {m : Nat} (n : Nat) (v : BitVec m) :
    bitPoly (n + 1) v = bitPoly n v + if v.getLsbD n then X ^ n else 0 :=
  Finset.sum_range_succ _ n

theorem bitPoly_congr {l m n : Nat} {u : BitVec l} {v : BitVec m} (h : ∀ i < n, u.getLsbD i = v.getLsbD i) :
    bitPoly n u = bitPoly n v :=
  Finset.sum_congr rfl fun i hi => by rw [h i (Finset.mem_range.1 hi)]

theorem bitPoly_xor {m : Nat} (n : Nat) (u v : BitVec m) : bitPoly n (u ^^^ v) = bitPoly n u + bitPoly n v := by
  unfold bitPoly
  rw [← Finset.sum_add_distrib]
  refine Finset.sum_congr rfl fun i _ => ?_
  rw [BitVec.getLsbD_xor]
  cases u.getLsbD i <;> cases v.getLsbD i <;> simp [CharTwo.add_self_eq_zero]

theorem bitPoly_shiftLeft {m k n : Nat} (v : BitVec m) (h : k + n ≤ m) :
    bitPoly (k + n) (v <<< k) = bitPoly n v * X ^ k := by
  have low : ∑ i ∈ Finset.range k, (if (v <<< k).getLsbD i then (X ^ i : (ZMod 2)[X]) else 0) = 0 :=
    Finset.sum_eq_zero fun i hi => by simp [Finset.mem_range.1 hi]
  unfold bitPoly
  rw [Finset.sum_range_add, low, zero_add, Finset.sum_mul]
  refine Finset.sum_congr rfl fun i hi => ?_
  have inside : k + i < m := by have := Finset.mem_range.1 hi; omega
  have bit : (v <<< k).getLsbD (k + i) = v.getLsbD i := by
    rw [BitVec.getLsbD_shiftLeft, decide_eq_true inside, Nat.add_sub_cancel_left]
    simp
  rw [bit, ite_mul, zero_mul, pow_add, mul_comm]

theorem bitPoly_of_toNat_lt {m n N : Nat} {v : BitVec m} (hv : v.toNat < 2 ^ n) (hN : n ≤ N) :
    bitPoly N v = bitPoly n v := by
  refine (Finset.sum_subset (Finset.range_subset_range.2 hN) fun i _ hi => ?_).symm
  rw [Finset.mem_range, Nat.not_lt] at hi
  simp [getLsbD_eq_false_of_toNat_lt hv hi]

theorem degree_bitPoly_lt {m : Nat} (n : Nat) (v : BitVec m) : (bitPoly n v).degree < n := by
  refine mem_degreeLT.1 (Submodule.sum_mem _ fun i hi => mem_degreeLT.2 ?_)
  split
  · simpa using hi
  · simp

/-! ### The division (R102) -/

/-- `x^W + P(x)`, by which the CRC divides. -/
noncomputable def crcModulus (w : Nat) (p : Word64) : (ZMod 2)[X] := X ^ w + bitPoly w p

/-- One iteration multiplies by x, and subtracts the modulus if the top bit was set. -/
theorem bitPoly_crcIterate {w : Nat} (hpos : 0 < w) (hw : w ≤ 64) (p r : Word64) :
    bitPoly w (crcIterate w p r) = X * bitPoly w r + if r.getLsbD (w - 1) then crcModulus w p else 0 := by
  obtain ⟨k, rfl⟩ : ∃ k, w = k + 1 := ⟨w - 1, by omega⟩
  have shifted : bitPoly (k + 1) ((r <<< 1) &&& mask (k + 1)) = bitPoly k r * X := by
    have bits : ∀ i < k + 1, ((r <<< 1) &&& mask (k + 1)).getLsbD i = (r <<< 1).getLsbD i := fun i hi => by
      rw [BitVec.getLsbD_and, getLsbD_mask _ _ hw, decide_eq_true hi, Bool.and_true]
    rw [bitPoly_congr bits, Nat.add_comm k 1, bitPoly_shiftLeft r (by omega), pow_one]
  have twice : (X ^ (k + 1) : (ZMod 2)[X]) + X ^ (k + 1) = 0 := CharTwo.add_self_eq_zero _
  rw [crcIterate_eq_xor, bitPoly_xor, shifted, bitPoly_succ k r, Nat.add_sub_cancel]
  split
  · rw [crcModulus]
    linear_combination -twice
  · simp [bitPoly, mul_comm]

/-- The register after `n` iterations is congruent to `x^n` times the register, modulo `x^W + P(x)`. -/
theorem crcModulus_dvd_crcIterations {w : Nat} (hpos : 0 < w) (hw : w ≤ 64) (p : Word64) (n : Nat) (r : Word64) :
    crcModulus w p ∣ X ^ n * bitPoly w r - bitPoly w (crcIterations w p n r) := by
  induction n generalizing r with
  | zero => simp [crcIterations]
  | succ n ih =>
    have first : crcModulus w p ∣ X * bitPoly w r - bitPoly w (crcIterate w p r) := by
      rw [bitPoly_crcIterate hpos hw, sub_add_cancel_left, dvd_neg]
      split
      · exact dvd_rfl
      · exact dvd_zero _
    have telescoped : X ^ (n + 1) * bitPoly w r - bitPoly w (crcIterations w p (n + 1) r)
        = X ^ n * (X * bitPoly w r - bitPoly w (crcIterate w p r))
          + (X ^ n * bitPoly w (crcIterate w p r) - bitPoly w (crcIterations w p n (crcIterate w p r))) := by
      rw [crcIterations]
      ring
    rw [telescoped]
    exact dvd_add (first.mul_left _) (ih _)

theorem bitPoly_crcSeed {w : Nat} (hl : 8 ≤ w) (hw : w ≤ 64) (b : Byte) :
    bitPoly w (crcSeed w b) = bitPoly 8 b * X ^ (w - 8) := by
  have widened : bitPoly 8 (b.setWidth 64) = bitPoly 8 b :=
    bitPoly_congr fun i hi => by simp [show i < 64 by omega]
  have shifted := bitPoly_shiftLeft (k := w - 8) (n := 8) (b.setWidth 64) (by omega)
  rwa [Nat.sub_add_cancel hl, widened] at shifted

theorem bitPoly_crcTableEntry {w : Nat} (hl : 8 ≤ w) (hw : w ≤ 64) (p : Word64) (b : Byte) :
    bitPoly w (crcTableEntry w p b) = (bitPoly 8 b * X ^ w) %ₘ crcModulus w p := by
  have monic : (crcModulus w p).Monic := monic_X_pow_add (degree_bitPoly_lt w p)
  have degree : (crcModulus w p).degree = w := by
    rw [crcModulus, degree_add_eq_left_of_degree_lt (by rw [degree_X_pow]; exact degree_bitPoly_lt w p), degree_X_pow]
  have reduced : bitPoly w (crcTableEntry w p b) %ₘ crcModulus w p = bitPoly w (crcTableEntry w p b) :=
    (modByMonic_eq_self_iff monic).2 (by rw [degree]; exact degree_bitPoly_lt w _)
  have dividend : X ^ 8 * bitPoly w (crcSeed w b) = bitPoly 8 b * X ^ w := by
    rw [bitPoly_crcSeed hl hw, mul_left_comm, ← pow_add, Nat.add_sub_cancel' hl]
  have congruent : crcModulus w p ∣ bitPoly 8 b * X ^ w - bitPoly w (crcTableEntry w p b) := by
    rw [← dividend]
    exact crcModulus_dvd_crcIterations (by omega) hw p 8 (crcSeed w b)
  rw [← reduced, modByMonic_eq_of_dvd_sub monic congruent]

/-- Settles O40: the eight iterations keep the residue, and what is left is below the modulus. -/
theorem tableEntryIsThePolynomialRemainder : Obligations.TableEntryIsThePolynomialRemainder := by
  intro w p b legal hp
  obtain ⟨hl, hw⟩ := legalCrcWidth_bounds legal
  change bitPoly 64 (crcTableEntry w p b) = (bitPoly 8 b * X ^ w) %ₘ (X ^ w + bitPoly 64 p)
  rw [bitPoly_of_toNat_lt (crcTableEntry_toNat_lt hp b) hw, bitPoly_of_toNat_lt hp hw]
  exact bitPoly_crcTableEntry hl hw p b

end Sys2Proof.Machine
end

section
/-! PROOF. The step of one byte through the table: it is eight iterations, and eight single-bit steps (40_crc_engine.md R107,
R109, R118). -/

namespace Sys2Proof.Machine

/-! ### Shifts under the mask -/

theorem getLsbD_shiftLeft_and_mask {w : Nat} (hw : w ≤ 64) (v : Word64) (k i : Nat) :
    ((v <<< k) &&& mask w).getLsbD i = (decide (k ≤ i ∧ i < w) && v.getLsbD (i - k)) := by
  rw [BitVec.getLsbD_and, getLsbD_mask _ _ hw, BitVec.getLsbD_shiftLeft]
  by_cases inside : i < w
  · by_cases below : i < k
    · simp [below, Nat.not_le.2 below]
    · simp [below, inside, Nat.not_lt.1 below, show i < 64 by omega]
  · simp [inside]

theorem and_mask_of_toNat_lt {w : Nat} (hw : w ≤ 64) {v : Word64} (hv : v.toNat < 2 ^ w) : v &&& mask w = v := by
  refine BitVec.eq_of_getLsbD_eq fun i _ => ?_
  rw [BitVec.getLsbD_and, getLsbD_mask _ _ hw]
  by_cases hi : i < w
  · rw [decide_eq_true hi, Bool.and_true]
  · rw [getLsbD_eq_false_of_toNat_lt hv (Nat.le_of_not_lt hi), Bool.false_and]

/-- Bits the mask clears before a shift are cleared after it as well. -/
theorem and_mask_shiftLeft_and_mask {w : Nat} (hw : w ≤ 64) (v : Word64) (k : Nat) :
    ((v &&& mask w) <<< k) &&& mask w = (v <<< k) &&& mask w := by
  refine BitVec.eq_of_getLsbD_eq fun i _ => ?_
  rw [getLsbD_shiftLeft_and_mask hw, getLsbD_shiftLeft_and_mask hw, BitVec.getLsbD_and, getLsbD_mask _ _ hw]
  by_cases hi : k ≤ i ∧ i < w
  · simp [show i - k < w by omega]
  · simp [hi]

/-- A shift by the whole width leaves nothing under the mask. -/
theorem shiftLeft_and_mask_eq_zero {w : Nat} (hw : w ≤ 64) (v : Word64) : (v <<< w) &&& mask w = 0 := by
  refine BitVec.eq_of_getLsbD_eq fun i _ => ?_
  have empty : ¬ (w ≤ i ∧ i < w) := by omega
  rw [getLsbD_shiftLeft_and_mask hw, decide_eq_false empty, Bool.false_and]
  exact BitVec.getLsbD_zero.symm

theorem crcSeed_shiftLeft_and_mask {w : Nat} (hl : 8 ≤ w) (hw : w ≤ 64) (b : Byte) :
    (crcSeed w b <<< 8) &&& mask w = 0 := by
  rw [crcSeed, ← BitVec.shiftLeft_add, Nat.sub_add_cancel hl]
  exact shiftLeft_and_mask_eq_zero hw _

/-! ### The step is eight iterations -/

/-- R107, with the input byte placed as its seed. -/
theorem crcStep_eq (w : Nat) (refin : Bool) (t : List Word64) (r : Word64) (b : Byte) :
    crcStep w refin t r b
      = (((r ^^^ crcSeed w (crcInput refin b)) <<< 8) &&& mask w)
        ^^^ tableAt t (crcIndex w (r ^^^ crcSeed w (crcInput refin b))) := rfl

/-- While the top bit is 0, an iteration only shifts. -/
theorem crcIterate_of_toNat_lt {w : Nat} (hpos : 0 < w) (hw : w ≤ 64) (p : Word64) {r : Word64}
    (hr : r.toNat < 2 ^ (w - 1)) : crcIterate w p r = r <<< 1 ∧ (r <<< 1).toNat = 2 * r.toNat := by
  have whole : 2 ^ w = 2 * 2 ^ (w - 1) := by rw [← pow_succ', Nat.sub_add_cancel hpos]
  have fits : 2 ^ w ≤ 2 ^ 64 := Nat.pow_le_pow_right Nat.two_pos hw
  have doubled : (r <<< 1).toNat = 2 * r.toNat := by
    rw [BitVec.toNat_shiftLeft, Nat.shiftLeft_eq, pow_one, mul_comm, Nat.mod_eq_of_lt (by omega)]
  have top : r.getLsbD (w - 1) = false := getLsbD_eq_false_of_toNat_lt hr le_rfl
  refine ⟨?_, doubled⟩
  rw [crcIterate_eq_xor, top, and_mask_of_toNat_lt hw (by omega)]
  exact BitVec.xor_zero

/-- While the top `n` bits are 0, `n` iterations only shift. -/
theorem crcIterations_of_toNat_lt {w n : Nat} (hw : w ≤ 64) (hn : n ≤ w) (p : Word64) {r : Word64}
    (hr : r.toNat < 2 ^ (w - n)) : crcIterations w p n r = r <<< n := by
  induction n generalizing r with
  | zero => exact (BitVec.shiftLeft_zero _).symm
  | succ n ih =>
    have top : 2 ^ (w - (n + 1)) ≤ 2 ^ (w - 1) := Nat.pow_le_pow_right Nat.two_pos (by omega)
    obtain ⟨shifted, doubled⟩ := crcIterate_of_toNat_lt (by omega) hw p (hr.trans_le top)
    have below : (r <<< 1).toNat < 2 ^ (w - n) := by
      rw [doubled, show w - n = w - (n + 1) + 1 by omega, pow_succ']
      omega
    rw [crcIterations, shifted, ih (by omega) below, ← BitVec.shiftLeft_add, Nat.add_comm 1 n]

/-- A register is its top byte, placed as the seed of that byte, and the bits below it. -/
theorem eq_crcSeed_xor_low {w : Nat} (hl : 8 ≤ w) (hw : w ≤ 64) {r : Word64} (hr : r.toNat < 2 ^ w) :
    r = (r &&& mask (w - 8)) ^^^ crcSeed w (crcIndex w r) := by
  refine BitVec.eq_of_getLsbD_eq fun i hi => ?_
  rw [BitVec.getLsbD_xor, BitVec.getLsbD_and, getLsbD_mask _ _ (by omega), crcSeed, BitVec.getLsbD_shiftLeft,
    BitVec.getLsbD_setWidth, crcIndex, BitVec.getLsbD_extractLsb']
  obtain low | ⟨notLow, byte⟩ | above : i < w - 8 ∨ (¬ i < w - 8 ∧ i - (w - 8) < 8) ∨ w ≤ i := by omega
  · simp [low]
  · simp [notLow, byte, hi, show i - (w - 8) < 64 by omega, show w - 8 + (i - (w - 8)) = i by omega]
  · simp [getLsbD_eq_false_of_toNat_lt hr above, show ¬ i - (w - 8) < 8 by omega]

/-- Eight iterations reduce the top byte through the table and shift the rest. -/
theorem crcIterations_eight {w : Nat} (hl : 8 ≤ w) (hw : w ≤ 64) (p : Word64) {r : Word64} (hr : r.toNat < 2 ^ w) :
    crcIterations w p 8 r = ((r <<< 8) &&& mask w) ^^^ crcTableEntry w p (crcIndex w r) := by
  have low : crcIterations w p 8 (r &&& mask (w - 8)) = (r <<< 8) &&& mask w := by
    rw [crcIterations_of_toNat_lt hw hl p (and_mask_toNat_lt (w - 8) r)]
    refine BitVec.eq_of_getLsbD_eq fun i hi => ?_
    rw [getLsbD_shiftLeft_and_mask hw, BitVec.getLsbD_shiftLeft, BitVec.getLsbD_and, getLsbD_mask _ _ (by omega)]
    by_cases below : i < 8
    · simp [below, Nat.not_le.2 below]
    · simp [below, hi, Nat.not_lt.1 below, show i - 8 < w - 8 ↔ i < w by omega, Bool.and_comm]
  conv_lhs => rw [eq_crcSeed_xor_low hl hw hr, crcIterations_xor, low]
  rfl

theorem crcSeed_toNat_lt {w : Nat} (hl : 8 ≤ w) (b : Byte) : (crcSeed w b).toNat < 2 ^ w := by
  have hb : b.toNat < 2 ^ 8 := b.isLt
  rw [crcSeed, BitVec.toNat_shiftLeft, Nat.shiftLeft_eq, BitVec.toNat_setWidth]
  refine (Nat.mod_le _ _).trans_lt ?_
  calc b.toNat % 2 ^ 64 * 2 ^ (w - 8) ≤ b.toNat * 2 ^ (w - 8) := Nat.mul_le_mul_right _ (Nat.mod_le _ _)
    _ < 2 ^ 8 * 2 ^ (w - 8) := Nat.mul_lt_mul_of_pos_right hb (Nat.two_pow_pos _)
    _ = 2 ^ w := by rw [← pow_add, Nat.add_sub_cancel' hl]

/-- The step through the built table divides the register with the input byte in its top (R107). -/
theorem crcStep_crcTable {w : Nat} (hl : 8 ≤ w) (hw : w ≤ 64) (refin : Bool) (p : Word64) {r : Word64}
    (hr : r.toNat < 2 ^ w) (b : Byte) :
    crcStep w refin (crcTable w p) r b = crcIterations w p 8 (r ^^^ crcSeed w (crcInput refin b)) := by
  have below : (r ^^^ crcSeed w (crcInput refin b)).toNat < 2 ^ w := by
    rw [BitVec.toNat_xor]
    exact Nat.xor_lt_two_pow hr (crcSeed_toNat_lt hl _)
  rw [crcIterations_eight hl hw p below, crcStep_eq, tableAt_crcTable]

/-! ### Eight iterations are eight single-bit steps (R109) -/

/-- The single-bit step of R109 with bit `j` of the input byte `c`. -/
def crcBitStep (w : Nat) (p : Word64) (c : Byte) (x : Word64) (j : Nat) : Word64 :=
  crcIterate w p (if c.getLsbD j then x ^^^ BitVec.twoPow 64 (w - 1) else x)

/-- The low `n` bits of the input byte, waiting at the top of a `w`-bit register. -/
def waitingBits (w : Nat) (c : Byte) (n : Nat) : Word64 := (c.setWidth 64 <<< (w - n)) &&& mask w

theorem waitingBits_zero {w : Nat} (hw : w ≤ 64) (c : Byte) : waitingBits w c 0 = 0 :=
  shiftLeft_and_mask_eq_zero hw _

theorem waitingBits_eight {w : Nat} (hl : 8 ≤ w) (hw : w ≤ 64) (c : Byte) : waitingBits w c 8 = crcSeed w c :=
  and_mask_of_toNat_lt hw (crcSeed_toNat_lt hl c)

/-- A lone top bit is shifted out and replaced by P. -/
theorem crcIterate_topBit {w : Nat} (hpos : 0 < w) (hw : w ≤ 64) (p : Word64) :
    crcIterate w p (BitVec.twoPow 64 (w - 1)) = p := by
  have shifted : (BitVec.twoPow 64 (w - 1) <<< 1) &&& mask w = 0 := by
    rw [BitVec.twoPow_eq, ← BitVec.shiftLeft_add, Nat.sub_add_cancel hpos]
    exact shiftLeft_and_mask_eq_zero hw _
  have top : (BitVec.twoPow 64 (w - 1)).getLsbD (w - 1) = true := by simp; omega
  rw [crcIterate_eq_xor, shifted, top, if_pos rfl]
  exact BitVec.zero_xor

/-- The input bit only decides whether P is added. -/
theorem crcBitStep_eq_xor {w : Nat} (hpos : 0 < w) (hw : w ≤ 64) (p : Word64) (c : Byte) (x : Word64) (j : Nat) :
    crcBitStep w p c x j = crcIterate w p x ^^^ (if c.getLsbD j then p else 0) := by
  unfold crcBitStep
  split
  · rw [crcIterate_xor, crcIterate_topBit hpos hw]
  · exact BitVec.xor_zero.symm

/-- One iteration takes the first waiting bit and moves the others up. -/
theorem crcIterate_waitingBits {w n : Nat} (hn : n < w) (hw : w ≤ 64) (p : Word64) (c : Byte) :
    crcIterate w p (waitingBits w c (n + 1)) = waitingBits w c n ^^^ (if c.getLsbD n then p else 0) := by
  have rest : (waitingBits w c (n + 1) <<< 1) &&& mask w = waitingBits w c n := by
    rw [waitingBits, and_mask_shiftLeft_and_mask hw, ← BitVec.shiftLeft_add, show w - (n + 1) + 1 = w - n by omega]
    rfl
  have first : (waitingBits w c (n + 1)).getLsbD (w - 1) = c.getLsbD n := by
    have inside : w - (n + 1) ≤ w - 1 ∧ w - 1 < w := by omega
    have place : w - 1 - (w - (n + 1)) = n := by omega
    rw [waitingBits, getLsbD_shiftLeft_and_mask hw, decide_eq_true inside, place, BitVec.getLsbD_setWidth]
    simp [show n < 64 by omega]
  rw [crcIterate_eq_xor, rest, first]

/-- Iterating with `n` bits waiting is taking them one by one, the highest first. -/
theorem crcIterations_xor_waitingBits {w n : Nat} (hn : n ≤ w) (hw : w ≤ 64) (p : Word64) (c : Byte) (x : Word64) :
    crcIterations w p n (x ^^^ waitingBits w c n) = (List.range n).reverse.foldl (crcBitStep w p c) x := by
  induction n generalizing x with
  | zero => rw [waitingBits_zero hw]; exact BitVec.xor_zero
  | succ n ih =>
    have one : crcIterate w p (x ^^^ waitingBits w c (n + 1)) = crcBitStep w p c x n ^^^ waitingBits w c n := by
      rw [crcIterate_xor, crcIterate_waitingBits hn hw, crcBitStep_eq_xor (by omega) hw]
      ac_rfl
    rw [crcIterations, one, ih (by omega), List.range_succ, List.reverse_append]
    rfl

/-- Settles O41: the step is eight iterations, and each takes one bit of the input byte. -/
theorem tableStepIsEightBitSteps : Obligations.TableStepIsEightBitSteps := by
  intro w refin p r b legal _ hr
  obtain ⟨hl, hw⟩ := legalCrcWidth_bounds legal
  rw [crcStep_crcTable hl hw refin p hr, ← waitingBits_eight hl hw]
  exact crcIterations_xor_waitingBits hl hw p (crcInput refin b) r

/-! ### Width 8, and polynomial 0 (R107, R118) -/

/-- At width 8 the register's low byte is its top byte, so nothing is left of it but the index. -/
theorem crcStep_width_eight (refin : Bool) (t : List Word64) (r : Word64) (b : Byte) :
    crcStep 8 refin t r b = tableAt t (r.setWidth 8 ^^^ crcInput refin b) := by
  have index (v : Word64) : crcIndex 8 v = v.setWidth 8 :=
    BitVec.eq_of_getLsbD_eq fun i hi => by simp [crcIndex, hi]
  have seed : (crcSeed 8 (crcInput refin b)).setWidth 8 = crcInput refin b := by
    rw [crcSeed, BitVec.shiftLeft_zero, BitVec.setWidth_setWidth_of_le _ (by decide), BitVec.setWidth_eq]
  rw [crcStep_eq, shiftLeft_and_mask_eq_zero (by decide), index, BitVec.setWidth_xor, seed]
  exact BitVec.zero_xor

/-- With polynomial 0 the iterations only shift, under the mask. -/
theorem crcIterations_poly_zero {w : Nat} (hw : w ≤ 64) (n : Nat) (r : Word64) :
    crcIterations w 0 (n + 1) r = (r <<< (n + 1)) &&& mask w := by
  have one (r : Word64) : crcIterate w 0 r = (r <<< 1) &&& mask w := by
    rw [crcIterate_eq_xor, ite_self]
    exact BitVec.xor_zero
  induction n generalizing r with
  | zero => exact one r
  | succ n ih =>
    rw [crcIterations, ih, one, and_mask_shiftLeft_and_mask hw, ← BitVec.shiftLeft_add, Nat.add_comm 1 (n + 1)]

theorem crcTableEntry_poly_zero {w : Nat} (hl : 8 ≤ w) (hw : w ≤ 64) (b : Byte) : crcTableEntry w 0 b = 0 :=
  (crcIterations_poly_zero hw 7 _).trans (crcSeed_shiftLeft_and_mask hl hw b)

theorem crcStep_poly_zero {w : Nat} (hl : 8 ≤ w) (hw : w ≤ 64) (refin : Bool) (r : Word64) (b : Byte) :
    crcStep w refin (crcTable w 0) r b = (r <<< 8) &&& mask w := by
  rw [crcStep_eq, tableAt_crcTable, crcTableEntry_poly_zero hl hw, shiftLeft_and_mask_xor,
    crcSeed_shiftLeft_and_mask hl hw]
  exact BitVec.xor_zero.trans BitVec.xor_zero

/-- Settles O42: both updates by what the mask leaves. -/
theorem narrowAndDegenerateUpdates : Obligations.NarrowAndDegenerateUpdates := by
  refine ⟨crcStep_width_eight, fun w refin r b legal => ?_⟩
  obtain ⟨hl, hw⟩ := legalCrcWidth_bounds legal
  refine ⟨crcTableEntry_poly_zero hl hw, ?_⟩
  rw [crcStep_poly_zero hl hw]
  split
  · next narrow => rw [narrow]; exact shiftLeft_and_mask_eq_zero (by decide) r
  · rfl

end Sys2Proof.Machine
end

section
/-! PROOF. Messages: the empty one, one split across feeds, and what an appended byte or the order of the bytes does
(40_crc_engine.md R113, R115, R116; 41_fnv_engine.md R129, R130). -/

namespace Sys2Proof.Machine

/-! ### The empty message -/

theorem padDigest_take {d : List Byte} (h : d.length ≤ 128) : (padDigest d).take d.length = d := by
  refine List.ext_getElem (by simp [h]) fun k hk _ => ?_
  have inside : k < d.length := (List.length_take_le _ _).trans_lt' hk
  simp [padDigest, Config.digestBytes, inside]

@[simp] theorem digestNow_length (s : State) : (digestNow s).length = s.aW.toNat / 8 := by
  unfold digestNow
  split <;> exact ser_length _ _ _

/-- START and then FINAL store the digest of the register that START opens with. -/
theorem start_final {s : State} (configured : s.engine ≠ .uninitialized) (hw : s.aW.toNat ≤ 1024) :
    ∃ t u : State, exec .start s = .next t ∧ exec .final t = .next u
      ∧ u.dbuf.take (s.aW.toNat / 8) = digestNow (openMessage s) := by
  refine ⟨_, _, (ExecRule.startOpens configured).exec_eq, (ExecRule.finalStores (openMessage_engine s)).exec_eq, ?_⟩
  have length : (digestNow (openMessage s)).length = s.aW.toNat / 8 := by simp
  rw [storeDigest_dbuf, ← length]
  exact padDigest_take (by omega)

/-- Settles O35: the register a message opens with is INIT for CRC and the basis for FNV. -/
theorem emptyMessageHasItsFixedDigest : Obligations.EmptyMessageHasItsFixedDigest := by
  refine fun s => ⟨fun ⟨configured, alg⟩ config => ?crc, fun ⟨configured, alg⟩ config => ?fnv⟩
  case crc =>
    have opened : digestNow (openMessage s)
        = ser (crcFinalValue s.aW.toNat s.acfg.refout s.aXorout s.aInit) s.aW.toNat s.acfg.order := by
      simp [digestNow, alg]
    rw [crcFinalValue] at opened
    rw [← opened]
    exact start_final configured ((legalCrcWidth_bounds config.width).2.trans (by decide))
  case fnv =>
    have opened : digestNow (openMessage s) = ser (fnvStart s.aW.toNat) s.aW.toNat .bigEndian := by
      simp [digestNow, alg]
    have widths : ∀ w ∈ [32, 64, 128, 256, 512, 1024], w ≤ 1024 := by decide
    rw [fnvStart] at opened
    rw [← opened]
    exact start_final configured (widths _ (fnvWidth_eq_some_mem config.width))

/-! ### A split message -/

/-- With a message open, feeding bytes one by one absorbs them all. -/
theorem execAll_feedImm {s : State} (ready : s.engine = .ready) (m : List Byte) :
    execAll (m.map .feedImm) s = .next (absorbAll s m) := by
  induction m generalizing s with
  | nil => rfl
  | cons b m ih =>
    rw [List.map_cons, execAll, (ExecRule.feedImmAbsorbs b ready).exec_eq]
    exact ih (by simpa using ready)

/-- Settles O43: absorbing `m₁ ++ m₂` is absorbing `m₁` and then `m₂`. -/
theorem messagesMayBeSplitAnywhere : Obligations.MessagesMayBeSplitAnywhere := by
  intro s m₁ m₂ ready
  have still : (absorbAll s m₁).engine = .ready := by simpa using ready
  refine ⟨absorbAll s m₁, absorbAll (absorbAll s m₁) m₂, execAll_feedImm ready m₁, execAll_feedImm still m₂,
    ?joined, still, fun alg => ⟨(absorbAll_crc s m₁ alg).1, ?crc⟩, fun alg => ⟨(absorbAll_fnv s m₁ alg).1, ?fnv⟩,
    ?length⟩
  case joined => rw [execAll_feedImm ready, absorbAll_append]
  case crc => simpa using (absorbAll_crc (absorbAll s m₁) m₂ (by simpa using alg)).1
  case fnv => simpa using (absorbAll_fnv (absorbAll s m₁) m₂ (by simpa using alg)).1
  case length => rw [absorbAll_msglen, absorbAll_msglen]

/-! ### An appended byte, and the order of the bytes -/

/-- A zero byte leaves a zero register zero, since T[0] is 0 (R104, R116). -/
theorem crcStep_zero (w : Nat) (refin : Bool) (p : Word64) : crcStep w refin (crcTable w p) 0 0 = 0 := by
  have input : crcInput refin 0 = 0 := by cases refin <;> decide
  have register : (0 : Word64) ^^^ crcSeed w (crcInput refin 0) = 0 := by
    rw [input, crcSeed_zero]
    exact BitVec.xor_self
  have index : crcIndex w 0 = 0 := by simp [crcIndex]
  rw [crcStep_eq, register, index, tableAt_crcTable, crcTableEntry_zero]
  simp

/-- Settles O44: the appended zero byte by `crcStep_zero`, the two orders by their digests. -/
theorem appendMayKeepAndOrderMayMatter : Obligations.AppendMayKeepAndOrderMayMatter := by
  constructor
  · have same : crcReg 8 false (crcTable 8 0x07) 0 [0x00] = 0 := crcStep_zero 8 false 0x07
    rw [List.nil_append, crcDigest, same]
    rfl
  · decide

end Sys2Proof.Machine
end

section
/-! PROOF. The FNV datapath of 41_fnv_engine.md: the exact product and its shift-and-add form (R123, R126), the permutation
that one update is (R131), the derivation of the offset bases (R122), and what does not reach the hash (R120). -/

namespace Sys2Proof.Machine

/-! ### The exact product -/

theorem fnvWidths_le : ∀ w ∈ [32, 64, 128, 256, 512, 1024], 8 ≤ w ∧ w ≤ 1024 := by decide

/-- Storage of `m` bits holds a value of fewer bits as it is. -/
theorem toNat_ofNat_of_lt_two_pow {n w m : Nat} (hn : n < 2 ^ w) (hw : w ≤ m) : (BitVec.ofNat m n).toNat = n :=
  Nat.mod_eq_of_lt (hn.trans_le (Nat.pow_le_pow_right Nat.two_pos hw))

/-- A width of at most the storage's 1024 bits loses nothing of the product modulo 2^W. -/
theorem fnvStep_toNat {w : Nat} (hw : w ≤ 1024) (h : Word1024) (b : Byte) :
    (fnvStep w h b).toNat = ((h.toNat ^^^ b.toNat) * fnvPrime w) % 2 ^ w := by
  rw [fnvStep, fnvStepWith, toNat_ofNat_of_lt_two_pow (Nat.mod_lt _ (Nat.two_pow_pos w)) hw, BitVec.toNat_xor,
    BitVec.toNat_setWidth_of_le (by decide)]

/-- Settles O45: `fnvStep_toNat` at the six widths. -/
theorem fnvStepIsTheExactProduct : Obligations.FnvStepIsTheExactProduct :=
  fun w h b hw => fnvStep_toNat (fnvWidths_le w hw).2 h b

/-! ### The primes, and the product by shifts and adds -/

/-- R122's primes all have the form that R126's shifts and adds rest on. -/
theorem fnvPrime_eq {w k c : Nat}
    (h : (w, k, c) ∈ [(32, 24, 0x93), (64, 40, 0xB3), (128, 88, 0x3B), (256, 168, 0x63), (512, 344, 0x57),
      (1024, 680, 0x8D)]) :
    fnvPrime w = 2 ^ k + 2 ^ 8 + c := by
  simp only [List.mem_cons, Prod.mk.injEq, List.not_mem_nil, or_false] at h
  obtain ⟨rfl, rfl, rfl⟩ | ⟨rfl, rfl, rfl⟩ | ⟨rfl, rfl, rfl⟩ | ⟨rfl, rfl, rfl⟩ | ⟨rfl, rfl, rfl⟩ | ⟨rfl, rfl, rfl⟩ := h <;>
    rfl

/-- Settles O46: the product distributes over the three terms of the prime. -/
theorem fnvProductIsShiftsAndAdds : Obligations.FnvProductIsShiftsAndAdds := by
  intro h w k c row
  rw [fnvPrime_eq row, Nat.mul_add, Nat.mul_add, Nat.shiftLeft_eq, Nat.shiftLeft_eq]

/-! ### One update is a permutation -/

/-- Each prime is odd, so it is invertible modulo 2^W (R131). -/
theorem fnvPrime_coprime {w : Nat} (hw : w ∈ [32, 64, 128, 256, 512, 1024]) : (fnvPrime w).Coprime (2 ^ w) := by
  have odd : ∀ w ∈ [32, 64, 128, 256, 512, 1024], Odd (fnvPrime w) := by decide +kernel
  exact (odd w hw).coprime_two_right.pow_right w

theorem xor_byte_lt {w n : Nat} (hw : 8 ≤ w) (hn : n < 2 ^ w) (b : Byte) : n ^^^ b.toNat < 2 ^ w :=
  Nat.xor_lt_two_pow hn (b.isLt.trans_le (Nat.pow_le_pow_right Nat.two_pos hw))

/-- Updates of W-bit hashes that agree come from the same XOR of hash and byte: the prime cancels. -/
theorem xor_eq_of_fnvStep_eq {w : Nat} (hw : w ∈ [32, 64, 128, 256, 512, 1024]) {h h' : Word1024} {b b' : Byte}
    (hh : h.toNat < 2 ^ w) (hh' : h'.toNat < 2 ^ w) (same : fnvStep w h b = fnvStep w h' b') :
    h.toNat ^^^ b.toNat = h'.toNat ^^^ b'.toNat := by
  obtain ⟨hl, hu⟩ := fnvWidths_le w hw
  have products : (h.toNat ^^^ b.toNat) * fnvPrime w ≡ (h'.toNat ^^^ b'.toNat) * fnvPrime w [MOD 2 ^ w] := by
    rw [Nat.ModEq, ← fnvStep_toNat hu, ← fnvStep_toNat hu, same]
  exact (products.cancel_right_of_coprime (fnvPrime_coprime hw).symm).eq_of_lt_of_lt (xor_byte_lt hl hh b)
    (xor_byte_lt hl hh' b')

/-- A W-bit hash is reached from the hash that undoes it: divide by the prime modulo 2^W, then XOR the byte. -/
theorem exists_fnvStep_eq {w : Nat} (hw : w ∈ [32, 64, 128, 256, 512, 1024]) (b : Byte) {g : Word1024}
    (hg : g.toNat < 2 ^ w) : ∃ h : Word1024, h.toNat < 2 ^ w ∧ fnvStep w h b = g := by
  obtain ⟨hl, hu⟩ := fnvWidths_le w hw
  obtain ⟨q, hq, quotient⟩ :=
    Nat.exists_mul_mod_eq_of_coprime g.toNat (fnvPrime_coprime hw) (Nat.two_pow_pos w).ne'
  have below : q ^^^ b.toNat < 2 ^ w := xor_byte_lt hl hq b
  have stored : (BitVec.ofNat 1024 (q ^^^ b.toNat)).toNat = q ^^^ b.toNat :=
    toNat_ofNat_of_lt_two_pow below hu
  refine ⟨BitVec.ofNat 1024 (q ^^^ b.toNat), stored.trans_lt below, BitVec.eq_of_toNat_eq ?_⟩
  rw [fnvStep_toNat hu, stored, Nat.xor_xor_cancel_right, Nat.mul_comm, quotient, Nat.mod_eq_of_lt hg]

/-- Settles O47: one-to-one because the prime cancels, onto because it divides. -/
theorem fnvStepIsAPermutation : Obligations.FnvStepIsAPermutation := by
  refine fun w b hw => ⟨fun h h' hh hh' same => ?hashes, fun g hg => exists_fnvStep_eq hw b hg,
    fun h b' hh same => ?bytes⟩
  case hashes => exact BitVec.eq_of_toNat_eq (Nat.xor_left_inj.1 (xor_eq_of_fnvStep_eq hw hh hh' same))
  case bytes => exact BitVec.eq_of_toNat_eq (Nat.xor_right_inj.1 (xor_eq_of_fnvStep_eq hw hh hh same))

/-! ### The offset bases -/

/-- Settles O60: the six folds over R122's 32 bytes, evaluated. -/
theorem fnvBasesAreTheirDerivation : Obligations.FnvBasesAreTheirDerivation := by
  unfold Obligations.FnvBasesAreTheirDerivation
  decide +kernel

/-! ### What FNV ignores -/

/-- Error capture changes nothing that FNV engines agree on, so each may record an error of its own. -/
theorem FnvAlike.raiseError {s s' : State} (h : FnvAlike s s') (c : ErrorCode) (a : ErrorArg) (w : Word) :
    FnvAlike (raiseError c a w s) (raiseError c a w s') where
  algLeft := by simpa using h.algLeft
  algRight := by simpa using h.algRight
  engine := by simpa using h.engine
  width := by simpa using h.width
  data := by simpa using h.data
  fnvH := by simpa using h.fnvH
  msglen := by simpa using h.msglen
  digest := ⟨by simpa using h.digest.dvalid, by simpa using h.digest.dlen, by simpa using h.digest.dbuf⟩

/-- START opens both with the basis of their one width (R144). -/
theorem FnvAlike.openMessage {s s' : State} (h : FnvAlike s s') : FnvAlike (openMessage s) (openMessage s') where
  algLeft := by simpa using h.algLeft
  algRight := by simpa using h.algRight
  engine := by simp
  width := by simpa using h.width
  data := by simpa using h.data
  fnvH := by simp [h.algLeft, h.algRight, h.width]
  msglen := by simp
  digest := by constructor <;> simp

/-- One byte updates both hashes alike (R160). -/
theorem FnvAlike.absorb {s s' : State} (h : FnvAlike s s') (b : Byte) : FnvAlike (absorb s b) (absorb s' b) where
  algLeft := by simpa using h.algLeft
  algRight := by simpa using h.algRight
  engine := by simpa using h.engine
  width := by simpa using h.width
  data := by simpa using h.data
  fnvH := by simp [h.algLeft, h.algRight, h.width, h.fnvH]
  msglen := by simp [h.msglen]
  digest := by constructor <;> simp

theorem FnvAlike.absorbAll {s s' : State} (h : FnvAlike s s') (m : List Byte) :
    FnvAlike (absorbAll s m) (absorbAll s' m) := by
  induction m generalizing s s' with
  | nil => exact h
  | cons b m ih => exact ih (h.absorb b)

/-- An FNV digest is its hash in big-endian order, whatever ORDER, REFOUT and XOROUT are (R127). -/
theorem FnvAlike.digestNow {s s' : State} (h : FnvAlike s s') : digestNow s' = digestNow s := by
  simp only [Machine.digestNow, h.algLeft, h.algRight, h.fnvH, h.width]

/-- FINAL stores the same digest in both (R163). -/
theorem FnvAlike.storeDigest {s s' : State} (h : FnvAlike s s') : FnvAlike (storeDigest s) (storeDigest s') where
  algLeft := h.algLeft
  algRight := h.algRight
  engine := h.engine
  width := h.width
  data := h.data
  fnvH := h.fnvH
  msglen := h.msglen
  digest := ⟨rfl, by simp [h.width], by simp [h.digestNow]⟩

/-- Settles O48: STATE is the same in both, so each command has the same outcome in both. -/
theorem fnvIgnoresTheCrcParameters : Obligations.FnvIgnoresTheCrcParameters := by
  intro s s' i h message
  have next {t t' : State} (left : ExecRule i s t) (right : ExecRule i s' t') (alike : FnvAlike t t') :
      ∃ t t' : State, exec i s = .next t ∧ exec i s' = .next t' ∧ FnvAlike t t' :=
    ⟨t, t', left.exec_eq, right.exec_eq, alike⟩
  obtain rfl | ⟨b, rfl⟩ | ⟨n, rfl⟩ | rfl := message
  · by_cases unconfigured : s.engine = .uninitialized
    · exact next (.startFails unconfigured) (.startFails (h.engine.trans unconfigured)) (h.raiseError ..)
    · exact next (.startOpens unconfigured) (.startOpens (h.engine ▸ unconfigured)) h.openMessage
  all_goals by_cases ready : s.engine = .ready
  · exact next (.feedImmAbsorbs b ready) (.feedImmAbsorbs b (h.engine.trans ready)) (h.absorb b)
  · exact next (.feedImmFails b ready) (.feedImmFails b (h.engine ▸ ready)) (h.raiseError ..)
  · exact next (.feedDataAbsorbs n ready) (.feedDataAbsorbs n (h.engine.trans ready)) (h.data ▸ h.absorbAll _)
  · exact next (.feedDataFails n ready) (.feedDataFails n (h.engine ▸ ready)) (h.raiseError ..)
  · exact next (.finalStores ready) (.finalStores (h.engine.trans ready)) h.storeDigest
  · exact next (.finalFails ready) (.finalFails (h.engine ▸ ready)) (h.raiseError ..)

end Sys2Proof.Machine
end

section
/-! PROOF. The control commands of 42_commands_control.md: NOP, CONFIGURE, START, CLEAR_ERR and SOFT_RESET, with the platform's
reset of 70_reset_and_hazards.md R200. -/

namespace Sys2Proof.Machine

/-! ### NOP (R140) -/

/-- OPCODE 0x00 is NOP's alone, with every operand bit reserved. -/
theorem eq_zero_of_decode_of_opcode_zero {w : Word} {i : Instr} (h : decode w = .ok i) (opcode : opcodeField w = 0x00) :
    w = 0 := by
  obtain ⟨-, rfl⟩ := decode_eq_ok_iff.1 h
  cases i with
  | nop => rfl
  | configure | start | feedImm | feedData | final | clearErr | softReset => simp [encode] at opcode

/-- Settles O20: NOP's one rule leaves the state. -/
theorem nopChangesNothing : Obligations.NopChangesNothing := by
  refine ⟨decode_eq_ok_iff.2 ⟨rfl, rfl⟩, fun w opcode nonzero => ?_, fun s => (ExecRule.nop s).exec_eq⟩
  cases h : decode w with
  | error e => exact ⟨e, rfl⟩
  | ok i => exact absurd (eq_zero_of_decode_of_opcode_zero h opcode) nonzero

/-! ### CLEAR_ERR (R145) -/

theorem clearError_sameButError (s : State) : SameButError s (clearError s) :=
  ⟨rfl, ⟨rfl, rfl, rfl, rfl, rfl, rfl, rfl, rfl⟩, ⟨rfl, rfl, rfl, rfl, rfl, rfl, rfl⟩, ⟨rfl, rfl, rfl⟩, ⟨rfl, rfl, rfl⟩,
    ⟨rfl, rfl⟩⟩

/-- Settles O25: CLEAR_ERR is the return from the error condition. -/
theorem clearErrClearsOnlyTheErrorState : Obligations.ClearErrClearsOnlyTheErrorState :=
  ⟨decode_eq_ok_iff.2 ⟨rfl, rfl⟩, fun s => ⟨_, (ExecRule.clearErr s).exec_eq, clearError_sameButError s,
    clearError_err s, clearError_errOvf s, clearError_errCode s, clearError_errArg s, clearError_errInfo s⟩⟩

/-! ### Reset (R146, R200) -/

theorem pair_zero : pair 0 0 = 0 := rfl

theorem applyReset_resetValues (s : State) : ResetValues (applyReset s) where
  engine := rfl
  digest := ⟨rfl, rfl, rfl⟩
  err := rfl
  errOvf := rfl
  errCode := rfl
  errArg := rfl
  errInfo := rfl
  data := rfl
  cfg := rfl
  poly := pair_zero
  init := pair_zero
  xorout := pair_zero
  config := ⟨rfl, rfl, rfl, rfl, rfl, rfl, rfl⟩
  working := ⟨rfl, rfl, rfl⟩

/-- STATUS packs STATE, DIGEST_VALID and the error state, all of which reset to 0 (R23). -/
theorem ResetValues.readReg_status {t : State} (h : ResetValues t) : readReg t .status = 0 := by
  simp [readReg, statusWord, h.engine, h.digest.dvalid, h.err, h.errOvf, h.errCode, h.errArg, EngineState.code,
    ErrorCode.code, ErrorArg.code]

/-- The bus delivers the platform's reset. -/
theorem stepOn_reset (effect : BusErrorEffect) {s : State} {rest : List BusEvent} (hp : s.pending = .reset :: rest) :
    stepOn effect s = .next (applyReset { s with pending := rest }) :=
  stepOn_cons effect s _ rest hp

/-- Settles O12: SOFT_RESET and the platform's reset are one operation. -/
theorem resetRestoresEveryResetValue : Obligations.ResetRestoresEveryResetValue := by
  refine ⟨decode_eq_ok_iff.2 ⟨rfl, rfl⟩, fun s => ?command, fun effect s rest hp => ?platform⟩
  case command =>
    have values := applyReset_resetValues s
    exact ⟨_, (ExecRule.softReset s).exec_eq, values, values.readReg_status, rfl, ⟨rfl, rfl⟩⟩
  case platform => exact ⟨_, stepOn_reset effect hp, applyReset_resetValues _, rfl, rfl, rfl⟩

/-! ### A CONFIGURE whose check fails (R143) -/

theorem FirstFailure.unique {s : State} {c c' : ErrorCode} {a a' : ErrorArg} (h : FirstFailure s c a)
    (h' : FirstFailure s c' a') : c' = c ∧ a' = a := by
  rw [← configureCheck_eq_some_iff] at h h'
  simpa using h'.symm.trans h

theorem FirstFailure.not_configPasses {s : State} {c : ErrorCode} {a : ErrorArg} (h : FirstFailure s c a) :
    ¬ ConfigPasses s := by
  rw [← configureCheck_eq_some_iff] at h
  rw [← configureCheck_eq_none_iff, h]
  exact nofun

/-- The check of CONFIGURE passes or has a first failure. -/
theorem configPasses_or_firstFailure (s : State) :
    ConfigPasses s ∨ ∃ (c : ErrorCode) (a : ErrorArg), FirstFailure s c a := by
  cases h : configureCheck s with
  | none => exact .inl ((configureCheck_eq_none_iff s).1 h)
  | some failure => exact .inr ⟨failure.1, failure.2, (configureCheck_eq_some_iff s _ _).1 h⟩

/-- Discarding the configuration leaves the error that was captured before it. -/
theorem Captured.discardConfig {c : ErrorCode} {a : ErrorArg} {w : Word} {s t : State} (h : Captured c a w s t) :
    Captured c a w s (discardConfig t) :=
  ⟨h.err, h.first, h.later⟩

/-- Settles O23: error capture leaves everything but the error state, and the discard that follows leaves the error state. -/
theorem failedConfigureDiscardsTheConfiguration : Obligations.FailedConfigureDiscardsTheConfiguration := by
  intro s c a failure
  have captured : Captured c a 0x01000000 s (raiseError c a 0x01000000 s) := raiseError_captured ..
  obtain ⟨config, working, digest, -⟩ := discardConfig_spec (raiseError c a 0x01000000 s)
  exact ⟨_, (ExecRule.configureFails failure).exec_eq, captured.discardConfig, rfl, config, working, digest,
    by constructor <;> simp, by constructor <;> simp⟩

/-! ### A CONFIGURE whose check passes (R142) -/

theorem cfgWidth_crc {c : Cfg} (alg : c.alg = .crc) : (cfgWidth c).toNat = c.crcWidth.toNat := by
  rw [cfgWidth, alg]
  exact BitVec.toNat_setWidth_of_le (by decide)

/-- An illegal FNV_WSEL is past the end of R29's list, and gives no width either. -/
theorem cfgWidth_fnv {c : Cfg} (alg : c.alg = .fnv) :
    (cfgWidth c).toNat = [32, 64, 128, 256, 512, 1024].getD c.fnvWsel.toNat 0 := by
  have widths : ∀ sel : BitVec 3, (BitVec.ofNat 11 ((fnvWidth sel).getD 0)).toNat
      = [32, 64, 128, 256, 512, 1024].getD sel.toNat 0 := by decide
  rw [cfgWidth, alg]
  exact widths c.fnvWsel

theorem latchConfig_table_crc {s : State} (alg : s.cfg.alg = .crc) :
    (latchConfig s).table = crcTable (latchConfig s).aW.toNat (latchConfig s).aPoly := by
  simp [alg]

/-- Settles O22: the latched fields, then the table of each algorithm, then the frame. -/
theorem configureLatchesAPassingConfiguration : Obligations.ConfigureLatchesAPassingConfiguration := by
  refine ⟨decode_eq_ok_iff.2 ⟨rfl, rfl⟩, fun s passes => ?_⟩
  refine ⟨_, (ExecRule.configurePasses passes).exec_eq, rfl, rfl, rfl, ?width, rfl, rfl, rfl,
    fun alg => ⟨by simp [alg], ?length, fun b => ?entry⟩, fun alg => ⟨by simp [alg], by simp [alg]⟩, latchConfig_spec s⟩
  case width =>
    rw [latchConfig_aW]
    split
    next alg => exact cfgWidth_crc alg
    next alg => exact cfgWidth_fnv alg
  case length => rw [latchConfig_table_crc alg, crcTable_length]
  case entry =>
    rw [latchConfig_table_crc alg]
    exact tableAt_crcTable _ _ b

/-- Settles O21: the check passes or has one first failure, and CONFIGURE follows the check. -/
theorem configureReportsExactlyOneOutcome : Obligations.ConfigureReportsExactlyOneOutcome := by
  refine fun s => ⟨configureCheck_eq_none_iff s, configureCheck_eq_some_iff s, ?_⟩
  obtain passes | ⟨c, a, failure⟩ := configPasses_or_firstFailure s
  · obtain ⟨-, -, -, error, -⟩ := latchConfig_spec s
    exact ⟨_, (ExecRule.configurePasses passes).exec_eq,
      .inl ⟨passes, fun _ _ failure => failure.not_configPasses passes, error, rfl⟩⟩
  · obtain ⟨t, exec, captured, engine, -⟩ := failedConfigureDiscardsTheConfiguration s c a failure
    exact ⟨t, exec, .inr ⟨failure.not_configPasses, c, a, failure, fun _ _ => failure.unique, captured, engine⟩⟩

/-! ### START (R144) -/

/-- R122's table has the six widths and no other. -/
theorem fnvBasis_eq_zero {w : Nat} (h : w ∉ [32, 64, 128, 256, 512, 1024]) : fnvBasis w = 0 := by
  unfold fnvBasis
  split <;> simp_all

/-- FNV_H holds every basis whole. -/
theorem fnvStart_toNat (w : Nat) : (fnvStart w).toNat = fnvBasis w := by
  by_cases hw : w ∈ [32, 64, 128, 256, 512, 1024]
  · exact toNat_ofNat_of_lt_two_pow (fnvBasis_lt w hw) (fnvWidths_le w hw).2
  · rw [fnvStart, fnvBasis_eq_zero hw, BitVec.toNat_zero]

/-- Settles O24: START's two rules, with the frames of opening a message and of error capture. -/
theorem startOpensAnEmptyMessage : Obligations.StartOpensAnEmptyMessage := by
  refine ⟨decode_eq_ok_iff.2 ⟨rfl, rfl⟩, fun s configured => ?opens, fun s unconfigured => ?fails⟩
  case opens =>
    obtain ⟨digest, frame⟩ := openMessage_spec s
    exact ⟨_, (ExecRule.startOpens configured).exec_eq, openMessage_engine s, openMessage_msglen s, digest,
      fun alg => by simp [alg], fun alg => by simp [alg, fnvStart_toNat], frame⟩
  case fails =>
    exact ⟨_, (ExecRule.startFails unconfigured).exec_eq, raiseError_sameButError .., raiseError_captured ..⟩

end Sys2Proof.Machine
end

section
/-! PROOF. The data commands of 43_commands_data.md: FEED_IMM, FEED_DATA and FINAL, each with a message open and with none. -/

namespace Sys2Proof.Machine

/-! ### FEED_IMM (R161) -/

theorem decode_of_opcode_feedImm {w : Word} (opcode : opcodeField w = 0x03) : decode w = decodeB w := by
  unfold decode
  rw [opcode]
  rfl

/-- Settles O26: FEED_IMM's two rules, with the frames of absorbing a byte and of error capture. -/
theorem feedImmAbsorbsItsByte : Obligations.FeedImmAbsorbsItsByte := by
  refine ⟨fun b => decode_eq_ok_iff.2 ⟨rfl, encode_feedImm b⟩, fun w opcode reserved => ?illegal,
    fun s b ready => ?absorbs, fun s b closed => ?fails⟩
  case illegal => exact ⟨_, (decode_of_opcode_feedImm opcode).trans (if_neg reserved)⟩
  case absorbs =>
    obtain ⟨digest, frame⟩ := absorb_spec s b
    exact ⟨_, (ExecRule.feedImmAbsorbs b ready).exec_eq, (absorb_engine s b).trans ready, absorb_msglen s b, digest,
      fun alg => by simp [alg], fun alg => by simp [alg], frame⟩
  case fails =>
    rw [← encode_feedImm]
    exact ⟨_, (ExecRule.feedImmFails b closed).exec_eq, raiseError_sameButError .., raiseError_captured ..⟩

/-! ### FEED_DATA (R162) -/

theorem decode_of_opcode_feedData {w : Word} (opcode : opcodeField w = 0x04) : decode w = decodeN w := by
  unfold decode
  rw [opcode]
  rfl

/-- The bytes FEED_DATA feeds are the lowest of DATA's four (10_state.md R26, 30_encoding.md R82). -/
theorem dataBytes_eq_take (v : Word) {n : Nat} (h : n ≤ 4) :
    dataBytes v n = [v.extractLsb' 0 8, v.extractLsb' 8 8, v.extractLsb' 16 8, v.extractLsb' 24 8].take n := by
  have all : [v.extractLsb' 0 8, v.extractLsb' 8 8, v.extractLsb' 16 8, v.extractLsb' 24 8] = dataBytes v 4 := rfl
  rw [all, dataBytes, dataBytes, ← List.map_take, List.take_range, Nat.min_eq_left h]

@[simp] theorem dataBytes_length (v : Word) (n : Nat) : (dataBytes v n).length = n := by simp [dataBytes]

/-- A count of at least 1 feeds a first byte. -/
theorem exists_dataBytes_eq_cons (v : Word) {n : Nat} (h : 1 ≤ n) :
    ∃ (b : Byte) (m : List Byte), dataBytes v n = b :: m :=
  List.exists_cons_of_length_pos (by rwa [dataBytes_length])

/-- Settles O27: FEED_DATA's two rules, with the folds and frames of absorbing its bytes and the frame of error capture. -/
theorem feedDataAbsorbsTheFirstBytesOfData : Obligations.FeedDataAbsorbsTheFirstBytesOfData := by
  refine ⟨fun n hl hh => ?legal, fun w opcode reserved => ?illegal, fun s n ready hl hh => ?absorbs,
    fun s n closed hl hh => ?fails⟩
  case legal => exact decode_eq_ok_iff.2 ⟨(feedData_wellFormed_iff n).2 ⟨hl, hh⟩, encode_feedData hh⟩
  case illegal => exact ⟨_, (decode_of_opcode_feedData opcode).trans (if_neg reserved)⟩
  case absorbs =>
    have digest : DigestEmpty (absorbAll s (dataBytes s.data n)) := by
      obtain ⟨b, m, bytes⟩ := exists_dataBytes_eq_cons s.data hl
      rw [bytes]
      exact absorbAll_digestEmpty s b m
    have length : (absorbAll s (dataBytes s.data n)).msglen = s.msglen + BitVec.ofNat 64 n := by
      rw [absorbAll_msglen, dataBytes_length]
    rw [← dataBytes_eq_take _ hh]
    exact ⟨_, (ExecRule.feedDataAbsorbs n ready).exec_eq, (absorbAll_engine ..).trans ready, length, digest,
      absorbAll_crc s _, absorbAll_fnv s _, absorbAll_frame s _⟩
  case fails =>
    rw [← encode_feedData hh]
    exact ⟨_, (ExecRule.feedDataFails n closed).exec_eq, raiseError_sameButError .., raiseError_captured ..⟩

/-- Settles O28: both absorb the first bytes of DATA. -/
theorem feedDataIsAsManyFeedImms : Obligations.FeedDataIsAsManyFeedImms := by
  intro s n ready _ hh
  rw [(ExecRule.feedDataAbsorbs n ready).exec_eq, execAll_feedImm ready, dataBytes_eq_take _ hh]

/-! ### FINAL (R163) -/

/-- R10's byte `k` of a serialised value, in either order. -/
theorem ser_getD {m : Nat} (v : BitVec m) {w k : Nat} (h : k < w / 8) :
    (ser v w .bigEndian).getD k 0 = v.extractLsb' (w - 8 - 8 * k) 8
      ∧ (ser v w .littleEndian).getD k 0 = v.extractLsb' (8 * k) 8 := by
  simp [ser, h]

/-- FINAL changes the digest buffer alone. -/
theorem storeDigest_frame (s : State) :
    SameWorking s (storeDigest s) ∧ SameStaging s (storeDigest s) ∧ SameActive s (storeDigest s)
      ∧ SameError s (storeDigest s) ∧ SameBus s (storeDigest s) := by
  refine ⟨?_, ?_, ?_, ?_, ?_⟩ <;> constructor <;> rfl

/-- The buffer that FINAL fills, byte by byte: the digest and then zero bytes. -/
theorem storeDigest_dbuf_getD (s : State) {k : Nat} (hk : k < 128) :
    (storeDigest s).dbuf.getD k 0 = (digestNow s).getD k 0 := by
  rw [storeDigest_dbuf, padDigest_getD _ k hk]

/-- Settles O29: FINAL's two rules, with the digest's bytes by algorithm and order. -/
theorem finalStoresTheDigest : Obligations.FinalStoresTheDigest := by
  refine ⟨decode_eq_ok_iff.2 ⟨rfl, rfl⟩, fun s ready => ?stores, fun s closed => ?fails⟩
  case stores =>
    refine ⟨_, (ExecRule.finalStores ready).exec_eq, storeDigest_dvalid s, storeDigest_dlen s, padDigest_length _,
      fun k hk past => ?past, fun k hk inside alg order => ?big, fun k hk inside alg order => ?little,
      fun k hk inside alg => ?fnv, ready, storeDigest_frame s⟩
    all_goals rw [storeDigest_dbuf_getD s hk]
    case past => exact List.getD_eq_default _ _ (by simpa using past)
    case big =>
      simp only [digestNow, alg, order]
      exact (ser_getD _ inside).1
    case little =>
      simp only [digestNow, alg, order]
      exact (ser_getD _ inside).2
    case fnv =>
      simp only [digestNow, alg]
      exact (ser_getD _ inside).1
  case fails =>
    exact ⟨_, (ExecRule.finalFails closed).exec_eq, raiseError_sameButError .., raiseError_captured ..⟩

/-! ### A feed after FINAL (R163) -/

/-- Absorbing a byte invalidates whatever digest there was. -/
theorem absorb_storeDigest (s : State) (b : Byte) : absorb (storeDigest s) b = absorb s b := by
  unfold absorb
  rw [storeDigest_acfg]
  split <;> rfl

/-- Settles O31: every feed absorbs a first byte. -/
theorem finalLeavesTheMessageOpen : Obligations.FinalLeavesTheMessageOpen := by
  intro s t ready ht
  cases (ExecRule.finalStores ready).exec_eq.symm.trans ht
  have still : (storeDigest s).engine = .ready := ready
  refine ⟨fun b => ?feedImm, fun n hl _ => ?feedData⟩
  case feedImm =>
    rw [(ExecRule.feedImmAbsorbs b still).exec_eq, (ExecRule.feedImmAbsorbs b ready).exec_eq, absorb_storeDigest]
  case feedData =>
    obtain ⟨b, m, bytes⟩ := exists_dataBytes_eq_cons s.data hl
    rw [(ExecRule.feedDataAbsorbs n still).exec_eq, (ExecRule.feedDataAbsorbs n ready).exec_eq, storeDigest_data, bytes,
      absorbAll_cons, absorbAll_cons, absorb_storeDigest]

end Sys2Proof.Machine
end

section
/-! PROOF. Messages fed and finished on the bus: the digest stands until the message changes (43_commands_data.md R164), and
START, any feeding and FINAL compute it (R165). -/

namespace Sys2Proof.Machine

/-! ### Parts unchanged twice are unchanged -/

theorem SameActive.trans {s t u : State} (hst : SameActive s t) (htu : SameActive t u) : SameActive s u :=
  ⟨htu.acfg.trans hst.acfg, htu.aW.trans hst.aW, htu.aPoly.trans hst.aPoly, htu.aInit.trans hst.aInit,
    htu.aXorout.trans hst.aXorout, htu.tvalid.trans hst.tvalid, htu.table.trans hst.table⟩

theorem SameWorking.trans {s t u : State} (hst : SameWorking s t) (htu : SameWorking t u) : SameWorking s u :=
  ⟨htu.crcR.trans hst.crcR, htu.fnvH.trans hst.fnvH, htu.msglen.trans hst.msglen⟩

theorem SameDigest.trans {s t u : State} (hst : SameDigest s t) (htu : SameDigest t u) : SameDigest s u :=
  ⟨htu.dvalid.trans hst.dvalid, htu.dlen.trans hst.dlen, htu.dbuf.trans hst.dbuf⟩

theorem SameError.trans {s t u : State} (hst : SameError s t) (htu : SameError t u) : SameError s u :=
  ⟨htu.err.trans hst.err, htu.errOvf.trans hst.errOvf, htu.errCode.trans hst.errCode, htu.errArg.trans hst.errArg,
    htu.errInfo.trans hst.errInfo⟩

theorem SameEngine.trans {s t u : State} (hst : SameEngine s t) (htu : SameEngine t u) : SameEngine s u := by
  obtain ⟨engine, active, working, digest, error⟩ := hst
  obtain ⟨engine', active', working', digest', error'⟩ := htu
  exact ⟨engine'.trans engine, active.trans active', working.trans working', digest.trans digest', error.trans error'⟩

/-! ### A command on the bus -/

/-- The bus delivers a command: one of its outcomes, with the bus beside it. -/
theorem step_commandEvent {s t : State} {rest : List BusEvent} {i : Instr} (hp : s.pending = commandEvent i :: rest)
    (wellFormed : i.wellFormed = true) (rule : ExecRule i s t) :
    step s = .next { t with pending := rest, responses := s.responses ++ [.writeDone] } :=
  (step_command hp (decode_encode wellFormed)).trans (exec_withBus rule.exec_eq _ _)

/-- A run that answers goes on with a step that answers. -/
theorem run_succ_of_run {n : Nat} {s t u : State} (h : run n s = .next t) (last : step t = .next u) :
    run (n + 1) s = .next u := by
  rw [run_add, h]
  exact run_succ_of_step last 0

/-! ### The digest stands (R164) -/

/-- In `t` the message is as it is in `s`, and the buffer holds the digest that a FINAL in `s` stores. -/
structure DigestStands (s t : State) : Prop where
  ready : t.engine = .ready
  active : SameActive s t
  working : SameWorking s t
  digest : SameDigest (storeDigest s) t

theorem DigestStands.of_same {s t u : State} (h : DigestStands s t) (engine : u.engine = t.engine)
    (active : SameActive t u) (working : SameWorking t u) (digest : SameDigest t u) : DigestStands s u :=
  ⟨engine.trans h.ready, h.active.trans active, h.working.trans working, h.digest.trans digest⟩

theorem DigestStands.of_sameEngine {s t u : State} (h : DigestStands s t) (same : SameEngine t u) : DigestStands s u := by
  obtain ⟨engine, active, working, digest, -⟩ := same
  exact h.of_same engine active working digest

theorem DigestStands.of_sameButError {s t u : State} (h : DigestStands s t) (same : SameButError t u) :
    DigestStands s u :=
  h.of_same same.engine same.active same.working same.digest

theorem DigestStands.withBus {s t : State} (h : DigestStands s t) (p : List BusEvent) (r : List Response) :
    DigestStands s { t with pending := p, responses := r } :=
  h.of_sameEngine (sameBlock_withBus t p r).sameEngine

theorem storeDigest_digestStands {s : State} (ready : s.engine = .ready) : DigestStands s (storeDigest s) := by
  obtain ⟨working, -, active, -⟩ := storeDigest_frame s
  exact ⟨ready, active, working, .refl _⟩

/-- FINAL computes the digest from the message alone, so a repeated one stores the same. -/
theorem DigestStands.storeDigest {s t : State} (h : DigestStands s t) : DigestStands s (storeDigest t) := by
  obtain ⟨ready, active, working, -⟩ := storeDigest_digestStands h.ready
  exact ⟨ready, h.active.trans active, h.working.trans working, rfl, by simp [h.active.aW],
    by simp [digestNow_of_same h.active h.working]⟩

/-- The commands that R164 allows. -/
theorem DigestStands.execRule {s t u : State} {i : Instr} (h : DigestStands s t)
    (hi : i = .nop ∨ i = .final ∨ i = .clearErr) (rule : ExecRule i t u) : DigestStands s u := by
  obtain rfl | rfl | rfl := hi
  · cases rule
    exact h
  · cases rule with
    | finalFails closed => exact absurd h.ready closed
    | finalStores => exact h.storeDigest
  · cases rule
    exact h.of_sameButError (clearError_sameButError t)

/-- A CMD write that R164 allows is of no command's word, or of one of three commands'. -/
theorem decode_of_keepsDigest {v : Word} (h : keepsDigest (.write .word 0x008 v) = true) :
    (∃ e : Reject, decode v = .error e) ∨ ∃ i : Instr, decode v = .ok i ∧ (i = .nop ∨ i = .final ∨ i = .clearErr) := by
  rw [keepsDigest, regAt_cmd, Bool.and_eq_true_iff] at h
  obtain ⟨-, allowed⟩ := h
  cases hv : decode v with
  | error e => exact .inl ⟨e, rfl⟩
  | ok i =>
    refine .inr ⟨i, rfl, ?_⟩
    rw [hv] at allowed
    cases i with
    | nop => exact .inl rfl
    | final => exact .inr (.inl rfl)
    | clearErr => exact .inr (.inr rfl)
    | configure | start | feedImm | feedData | softReset => cases allowed

/-- R164 allows accepted events only, and no reset. -/
theorem accepted_of_keepsDigest {e : BusEvent} (h : keepsDigest e = true) : accepted e = true := by
  cases e with
  | read size offset => exact h
  | write size offset v => exact (Bool.and_eq_true_iff.1 h).1
  | reset => cases h

/-- R164, event by event. -/
theorem DigestStands.step {s t : State} {e : BusEvent} {rest : List BusEvent} (h : DigestStands s t)
    (hp : t.pending = e :: rest) (he : keepsDigest e = true) :
    ∃ u : State, step t = .next u ∧ u.pending = rest ∧ DigestStands s u := by
  have accepted := accepted_of_keepsDigest he
  cases e with
  | read size offset =>
    obtain ⟨rfl, aligned⟩ := (acceptsAccess_iff size offset).1 accepted
    exact ⟨_, stepOn_read .abort hp aligned, rfl, h.withBus ..⟩
  | write size offset v =>
    obtain ⟨rfl, aligned⟩ := (acceptsAccess_iff size offset).1 accepted
    by_cases hcmd : offset = 0x008
    · subst hcmd
      obtain ⟨e, illegal⟩ | ⟨i, legal, allowed⟩ := decode_of_keepsDigest he
      · exact ⟨_, step_illegal hp illegal, rfl, (h.of_sameButError (raiseError_sameButError ..)).withBus ..⟩
      · obtain ⟨u, hu, bus⟩ := exec_next i { t with pending := rest, responses := t.responses ++ [.writeDone] }
        exact ⟨u, (step_command hp legal).trans hu, bus.pending, (h.withBus ..).execRule allowed (.of_exec hu)⟩
    · have written := h.of_sameEngine (writeReg_sameEngine t (regAt offset) v)
      exact ⟨_, stepOn_writeReg .abort hp aligned hcmd, rfl, written.withBus ..⟩
  | reset => cases he

/-- R164, for a whole run. -/
theorem DigestStands.run {s t : State} {events rest : List BusEvent} (h : DigestStands s t)
    (hp : t.pending = events ++ rest) (keeps : ∀ e ∈ events, keepsDigest e = true) :
    ∃ u : State, run events.length t = .next u ∧ u.pending = rest ∧ DigestStands s u := by
  induction events generalizing t with
  | nil => exact ⟨t, rfl, hp, h⟩
  | cons e events ih =>
    obtain ⟨he, hevents⟩ := List.forall_mem_cons.1 keeps
    obtain ⟨t', ht', pending', stands⟩ := h.step hp he
    obtain ⟨u, hu, pending, result⟩ := ih stands pending' hevents
    exact ⟨u, (run_succ_of_step ht' _).trans hu, pending, result⟩

/-- Settles O30: the digest stands from the FINAL on, through the run and through a FINAL after it. -/
theorem digestIsStableUntilTheMessageChanges : Obligations.DigestIsStableUntilTheMessageChanges := by
  intro s t events rest ready ht hp keeps
  cases (ExecRule.finalStores ready).exec_eq.symm.trans ht
  obtain ⟨u, hu, pending, stands⟩ := (storeDigest_digestStands ready).run hp keeps
  exact ⟨u, _, hu, pending, stands.digest, (ExecRule.finalStores stands.ready).exec_eq, stands.storeDigest.digest⟩

/-! ### START, any feeding, FINAL (R165) -/

/-- After `n` steps `s` has `rest` on the bus, and all of `u` but DATA and the staging registers. -/
def RunsTo (n : Nat) (s : State) (rest : List BusEvent) (u : State) : Prop :=
  ∃ t : State, run n s = .next t ∧ t.pending = rest ∧ SameEngine u t

theorem RunsTo.of_step {n : Nat} {s t u u' : State} {rest : List BusEvent} (first : step s = .next t)
    (h : RunsTo n t rest u) (same : SameEngine u' u) : RunsTo (n + 1) s rest u' := by
  obtain ⟨v, hv, pending, engine⟩ := h
  exact ⟨v, (run_succ_of_step first n).trans hv, pending, same.trans engine⟩

/-- Absorbing looks at nothing on the bus. -/
theorem absorbAll_sameEngine_withBus (s : State) (m : List Byte) (p : List BusEvent) (r : List Response) :
    SameEngine (absorbAll s m) (absorbAll { s with pending := p, responses := r } m) := by
  rw [absorbAll_withBus s m p r]
  exact (sameBlock_withBus ..).sameEngine

/-- Absorbing looks at neither DATA nor the staging registers. -/
theorem absorbAll_sameEngine_writeReg (s : State) (m : List Byte) (reg : Reg) (v : Word) :
    SameEngine (absorbAll s m) (absorbAll (writeReg s reg v) m) := by
  rw [absorbAll_writeReg]
  exact writeReg_sameEngine ..

/-- With a message open, any feeding of `m` absorbs `m` (R160 to R162). -/
theorem Feeds.runsTo {d : Word} {f : List BusEvent} {m : List Byte} (h : Feeds d f m) {s : State}
    {rest : List BusEvent} (hd : s.data = d) (ready : s.engine = .ready) (hp : s.pending = f ++ rest) :
    RunsTo f.length s rest (absorbAll s m) := by
  induction h generalizing s with
  | done d => exact ⟨s, rfl, hp, (SameBlock.refl s).sameEngine⟩
  | imm b _ ih =>
    have first := step_commandEvent hp rfl (.feedImmAbsorbs b ready)
    exact .of_step first (ih ((absorb_data s b).trans hd) ((absorb_engine s b).trans ready) rfl)
      (absorbAll_sameEngine_withBus ..)
  | data n hl hh _ ih =>
    have first := step_commandEvent hp ((feedData_wellFormed_iff n).2 ⟨hl, hh⟩) (.feedDataAbsorbs n ready)
    rw [absorbAll_append, ← hd]
    exact .of_step first (ih ((absorbAll_data s _).trans hd) ((absorbAll_engine s _).trans ready) rfl)
      (absorbAll_sameEngine_withBus ..)
  | write v _ ih =>
    have first := step_writeReg hp (by decide) (by decide)
    exact .of_step first (ih rfl ready rfl)
      ((absorbAll_sameEngine_writeReg ..).trans (absorbAll_sameEngine_withBus ..))

/-- The step looks at the table's entries alone. -/
theorem crcReg_congr_table {t t' : List Word64} (h : ∀ b : Byte, tableAt t b = tableAt t' b) (w : Nat) (refin : Bool)
    (i : Word64) (m : List Byte) : crcReg w refin t i m = crcReg w refin t' i m := by
  have steps : crcStep w refin t = crcStep w refin t' := by
    funext r b
    rw [crcStep_eq, crcStep_eq, h]
  rw [crcReg, crcReg, steps]

/-- A message absorbed from its opening on has the digest that the active configuration gives it (R112, R128). -/
theorem digestNow_absorbAll_openMessage {s : State} (h : CrcActive s ∧ CrcConfigured s ∨ FnvActive s ∧ FnvConfigured s)
    (m : List Byte) : digestNow (absorbAll (openMessage s) m) = activeDigest s m := by
  obtain ⟨⟨-, alg⟩, config⟩ | ⟨⟨-, alg⟩, -⟩ := h
  · have register : (absorbAll (openMessage s) m).crcR
        = crcReg s.aW.toNat s.acfg.refin (crcTable s.aW.toNat s.aPoly) s.aInit m := by
      rw [(absorbAll_crc (openMessage s) m (by simpa using alg)).1]
      simp only [openMessage_aW, openMessage_acfg, openMessage_table, openMessage_crcR, if_pos alg]
      exact crcReg_congr_table (fun b => by rw [config.entries b, tableAt_crcTable]) ..
    simp [digestNow, activeDigest, crcDigest, alg, register]
  · have hash : (absorbAll (openMessage s) m).fnvH = fnvReg s.aW.toNat m := by
      rw [(absorbAll_fnv (openMessage s) m (by simpa using alg)).1]
      simp [alg, fnvReg]
    simp [digestNow, activeDigest, fnvDigest, alg, hash]

/-- A digest that fits the buffer is followed by zero bytes up to its end (R43). -/
theorem padDigest_eq_append {d : List Byte} (h : d.length ≤ 128) :
    padDigest d = d ++ List.replicate (128 - d.length) 0 := by
  refine List.ext_getElem (by simp; omega) fun k hk _ => ?_
  by_cases inside : k < d.length
  · simp [padDigest, inside]
  · rw [List.getElem_append_right (Nat.not_lt.1 inside)]
    simp [padDigest, inside]

/-- A configured engine can open a message, and its digest fits the buffer. -/
theorem configured_and_width_le {s : State}
    (h : CrcActive s ∧ CrcConfigured s ∨ FnvActive s ∧ FnvConfigured s) :
    s.engine ≠ .uninitialized ∧ s.aW.toNat ≤ 1024 := by
  obtain ⟨⟨configured, -⟩, config⟩ | ⟨⟨configured, -⟩, config⟩ := h
  · exact ⟨configured, (legalCrcWidth_bounds config.width).2.trans (by decide)⟩
  · exact ⟨configured, (fnvWidths_le _ (fnvWidth_eq_some_mem config.width)).2⟩

/-- START and any feeding of `m`, delivered by the bus, open a message and absorb `m`. -/
theorem run_start_feeds {s : State} {f rest : List BusEvent} {m : List Byte} (configured : s.engine ≠ .uninitialized)
    (h : Feeds s.data f m) (hp : s.pending = commandEvent .start :: f ++ rest) :
    RunsTo (f.length + 1) s rest (absorbAll (openMessage s) m) :=
  .of_step (step_commandEvent hp rfl (.startOpens configured))
    (h.runsTo (openMessage_data s) (openMessage_engine s) rfl) (absorbAll_sameEngine_withBus ..)

/-- A message opened and absorbed keeps the configuration and the error state, and MSGLEN counts its bytes. -/
theorem absorbAll_openMessage_spec (s : State) (m : List Byte) :
    SameActive s (absorbAll (openMessage s) m) ∧ SameError s (absorbAll (openMessage s) m)
      ∧ (absorbAll (openMessage s) m).msglen = BitVec.ofNat 64 m.length := by
  obtain ⟨-, -, active, error, -⟩ := openMessage_spec s
  obtain ⟨-, active', error', -⟩ := absorbAll_frame (openMessage s) m
  exact ⟨active.trans active', error.trans error', by simp [absorbAll_msglen]⟩

/-- Settles O34: START and the feeding absorb the message, and FINAL stores its digest. -/
theorem startFeedFinalComputesTheDigest : Obligations.StartFeedFinalComputesTheDigest := by
  intro s f rest m config feeds hp
  obtain ⟨configured, width⟩ := configured_and_width_le config
  obtain ⟨u, hu, pending, engine, active, working, -, error⟩ :=
    run_start_feeds (rest := commandEvent .final :: rest) configured feeds hp
  obtain ⟨activeFed, errorFed, counted⟩ := absorbAll_openMessage_spec s m
  have ready : u.engine = .ready := by simp [engine]
  have activeThroughout : SameActive s u := activeFed.trans active
  have digest : digestNow u = activeDigest s m :=
    (digestNow_of_same active working).trans (digestNow_absorbAll_openMessage config m)
  have length : (activeDigest s m).length = s.aW.toNat / 8 := by
    rw [← digest, digestNow_length, activeThroughout.aW]
  have dlen : (storeDigest u).dlen.toNat = s.aW.toNat / 8 := by
    rw [storeDigest_dlen, activeThroughout.aW, BitVec.toNat_ofNat, Nat.mod_eq_of_lt (by omega)]
  have dbuf : (storeDigest u).dbuf = activeDigest s m ++ List.replicate (128 - s.aW.toNat / 8) 0 := by
    rw [storeDigest_dbuf, digest, padDigest_eq_append (by omega), length]
  have final := step_commandEvent pending rfl (.finalStores ready)
  exact ⟨_, run_succ_of_run hu final, rfl, ready, rfl, dlen, length, dbuf, working.msglen.trans counted,
    activeThroughout.trans (by constructor <;> rfl), (errorFed.trans error).trans (by constructor <;> rfl)⟩

end Sys2Proof.Machine
end

section
/-! PROOF. The error state and the commands (60_exceptions.md R185, R188): errors do not block a command, and a
command that records one changes nothing else.  States that differ at most in the error state are those that `clearError` makes
the same. -/

namespace Sys2Proof.Machine

/-! ### States that differ at most in the error state -/

theorem SameButError.clearError_eq {s s' : State} (h : SameButError s s') : clearError s' = clearError s := by
  obtain ⟨engine, ⟨⟩, ⟨⟩, ⟨⟩, ⟨⟩, ⟨⟩⟩ := h
  simp [clearError, *]

theorem SameButError.of_clearError_eq {s s' : State} (h : clearError s' = clearError s) : SameButError s s' := by
  simp only [clearError, State.mk.injEq] at h
  constructor
  case engine => simp [h]
  all_goals constructor <;> simp [h]

/-! ### The error state reaches nothing else: clearing it before an operation or after it is the same -/

@[simp] theorem clearError_raiseError (c : ErrorCode) (a : ErrorArg) (w : Word) (s : State) :
    clearError (raiseError c a w s) = clearError s :=
  (raiseError_sameButError c a w s).clearError_eq

@[simp] theorem clearError_clearError (s : State) : clearError (clearError s) = clearError s := rfl

@[simp] theorem clearError_discardConfig (s : State) : clearError (discardConfig s) = discardConfig (clearError s) := rfl

@[simp] theorem clearError_latchConfig (s : State) : clearError (latchConfig s) = latchConfig (clearError s) := rfl

@[simp] theorem clearError_openMessage (s : State) : clearError (openMessage s) = openMessage (clearError s) := by
  unfold openMessage
  rw [clearError_acfg]
  split <;> rfl

@[simp] theorem clearError_absorb (s : State) (b : Byte) : clearError (absorb s b) = absorb (clearError s) b := by
  unfold absorb
  rw [clearError_acfg]
  split <;> rfl

@[simp] theorem clearError_absorbAll (s : State) (m : List Byte) :
    clearError (absorbAll s m) = absorbAll (clearError s) m := by
  induction m generalizing s with
  | nil => rfl
  | cons b m ih => rw [absorbAll_cons, ih, clearError_absorb, absorbAll_cons]

@[simp] theorem clearError_storeDigest (s : State) : clearError (storeDigest s) = storeDigest (clearError s) := by
  have same := clearError_sameButError s
  have digest : digestNow (clearError s) = digestNow s := digestNow_of_same same.active same.working
  rw [storeDigest, storeDigest, digest]
  rfl

@[simp] theorem clearError_applyReset (s : State) : clearError (applyReset s) = applyReset (clearError s) := rfl

/-- The check of CONFIGURE does not look at the error state. -/
@[simp] theorem configureCheck_clearError (s : State) : configureCheck (clearError s) = configureCheck s := rfl

/-! ### Errors do not block commands (R188) -/

/-- Whatever the error state is, a command has the same outcome but for the error state. -/
theorem ExecRule.of_clearError_eq {i : Instr} {s s' t : State} (rule : ExecRule i s t)
    (same : clearError s' = clearError s) : ∃ t' : State, ExecRule i s' t' ∧ clearError t' = clearError t := by
  have engine : s'.engine = s.engine := by simpa using congrArg State.engine same
  have data : s'.data = s.data := by simpa using congrArg State.data same
  have check : configureCheck s' = configureCheck s := by simpa using congrArg configureCheck same
  cases rule with
  | nop => exact ⟨_, .nop s', same⟩
  | configureFails failure =>
    rw [← configureCheck_eq_some_iff, ← check, configureCheck_eq_some_iff] at failure
    exact ⟨_, .configureFails failure, by simp [same]⟩
  | configurePasses passes =>
    rw [← configureCheck_eq_none_iff, ← check, configureCheck_eq_none_iff] at passes
    exact ⟨_, .configurePasses passes, by simp [same]⟩
  | startFails unconfigured => exact ⟨_, .startFails (engine.trans unconfigured), by simp [same]⟩
  | startOpens configured => exact ⟨_, .startOpens (by rwa [engine]), by simp [same]⟩
  | feedImmFails b closed => exact ⟨_, .feedImmFails b (by rwa [engine]), by simp [same]⟩
  | feedImmAbsorbs b ready => exact ⟨_, .feedImmAbsorbs b (engine.trans ready), by simp [same]⟩
  | feedDataFails n closed => exact ⟨_, .feedDataFails n (by rwa [engine]), by simp [same]⟩
  | feedDataAbsorbs n ready => exact ⟨_, .feedDataAbsorbs n (engine.trans ready), by simp [same, data]⟩
  | finalFails closed => exact ⟨_, .finalFails (by rwa [engine]), by simp [same]⟩
  | finalStores ready => exact ⟨_, .finalStores (engine.trans ready), by simp [same]⟩
  | clearErr => exact ⟨_, .clearErr s', by simp [same]⟩
  | softReset => exact ⟨_, .softReset s', by simp [same]⟩

/-- Settles O53: every command completes, and has its outcome whatever the error state. -/
theorem errorsDoNotBlockCommands : Obligations.ErrorsDoNotBlockCommands := by
  intro i s s' same
  obtain ⟨t, ht, -⟩ := exec_next i s
  obtain ⟨t', rule, same'⟩ := (ExecRule.of_exec ht).of_clearError_eq same.clearError_eq
  exact ⟨t, t', ht, rule.exec_eq, .of_clearError_eq same'⟩

/-! ### Changes of the error state come alone (R185) -/

/-- Settles O54: a command that fails only captures its error, and one that succeeds leaves the error state. -/
theorem errorStateChangesComeAlone : Obligations.ErrorStateChangesComeAlone := by
  intro i s t hconfigure hclear hreset ht
  cases ExecRule.of_exec ht with
  | nop => exact .inl (.refl s)
  | configureFails | configurePasses | clearErr | softReset => contradiction
  | startFails | feedImmFails | feedDataFails | finalFails => exact .inr (raiseError_sameButError ..)
  | startOpens =>
    obtain ⟨-, -, -, error, -⟩ := openMessage_spec s
    exact .inl error
  | feedImmAbsorbs b =>
    obtain ⟨-, -, -, error, -⟩ := absorb_spec s b
    exact .inl error
  | feedDataAbsorbs n =>
    obtain ⟨-, -, error, -⟩ := absorbAll_frame s (dataBytes s.data n)
    exact .inl error
  | finalStores =>
    obtain ⟨-, -, -, error, -⟩ := storeDigest_frame s
    exact .inl error

end Sys2Proof.Machine
end

section
/-! PROOF. Reset values as the host reads them (70_reset_and_hazards.md R201), and the three pairs of accesses that need no
wait between them (R205). -/

namespace Sys2Proof.Machine

/-! ### What a host reads after reset (R201) -/

/-- Every digest byte resets to 0, so each word of the window does. -/
theorem readReg_reset_digest (j : Fin 32) : readReg State.reset (.digest j) = 0 := by
  have byte : ∀ k : Nat, digestByte State.reset k = 0 := emptyDbuf_getD
  simp only [readReg, byte]
  rfl

/-- No configuration is active after reset, so the table window shows nothing (R38). -/
theorem readReg_reset_crctab (i : Byte) :
    readReg State.reset (.crctabHi i) = 0 ∧ readReg State.reset (.crctabLo i) = 0 :=
  (tableWindowShowsTheTable State.reset i).2 fun ⟨configured, _⟩ => configured rfl

/-- Settles O19: STATUS packs reset fields, the two windows show an empty buffer and no table, and each other register
shows one field. -/
theorem resetValuesAsTheHostReadsThem : Obligations.ResetValuesAsTheHostReadsThem := by
  intro r
  cases r with
  | status => exact (applyReset_resetValues State.reset).readReg_status
  | digest j => exact readReg_reset_digest j
  | crctabLo i => exact (readReg_reset_crctab i).2
  | crctabHi i => exact (readReg_reset_crctab i).1
  | cfg | acfg => exact packCfg_zero
  | id | cmd | data | polyLo | polyHi | initLo | initHi | xoroutLo | xoroutHi | errInfo | digestLen | msglenLo | msglenHi
  | reserved => rfl

/-! ### Reads of the two windows -/

/-- The bus delivers a read of a named register. -/
theorem step_readReg {s : State} {rest : List BusEvent} {r : Reg} (hp : s.pending = memRead (regOffset r) :: rest)
    (hres : r ≠ .reserved) :
    step s = .next { s with pending := rest, responses := s.responses ++ [.readDone (readReg s r)] } := by
  obtain ⟨place, aligned⟩ := regAt_regOffset hres
  have read := stepOn_read .abort hp aligned
  rwa [place] at read

/-- R37, by the window's index: lane `k` of word `j` is byte `4 j + k` of the buffer. -/
theorem byteLane_readReg_digest (s : State) (j : Fin 32) {k : Nat} (hk : k < 4) :
    byteLane (readReg s (.digest j)) k = s.dbuf.getD (4 * j.val + k) 0 :=
  byteLane_wordOfLanes (fun k => digestByte s (4 * j.val + k)) k hk

/-- After a CONFIGURE for CRC the window shows the table of the staged width and polynomial (R38, R142). -/
theorem readReg_latchConfig_crctab {s : State} (alg : s.cfg.alg = .crc) (i : Byte) :
    readReg (latchConfig s) (.crctabHi i) ++ readReg (latchConfig s) (.crctabLo i)
      = crcTableEntry s.cfg.crcWidth.toNat s.poly i := by
  have active : CrcActive (latchConfig s) := ⟨nofun, alg⟩
  have entry : tableAt (latchConfig s).table i = crcTableEntry s.cfg.crcWidth.toNat s.poly i := by
    rw [latchConfig_table_crc alg, tableAt_crcTable, latchConfig_aW, cfgWidth_crc alg, latchConfig_aPoly]
  exact ((tableWindowShowsTheTable (latchConfig s) i).1 active).trans entry

/-! ### Pairs with no hazard (R205) -/

/-- Settles O36: in each pair the second access acts in the state that the first one leaves. -/
theorem feedDigestAndTablePairsHaveNoHazard : Obligations.FeedDigestAndTablePairsHaveNoHazard := by
  refine ⟨fun s rest v n ready hl hh hp => ?feed, fun s rest j ready hp => ?digest, fun s rest i passes alg hp => ?table⟩
  case feed =>
    rw [← encode_feedData hh] at hp
    have written := run_succ_of_step (step_writeReg (r := .data) hp nofun nofun) 0
    have fed := run_succ_of_run written
      (step_commandEvent rfl ((feedData_wellFormed_iff n).2 ⟨hl, hh⟩) (.feedDataAbsorbs n ready))
    rw [← dataBytes_eq_take v hh]
    exact ⟨_, fed, rfl, absorbAll_data ..,
      fun crc => (absorbAll_crc { writeReg s .data v with pending := _, responses := _ } _ crc).1,
      fun fnv => (absorbAll_fnv { writeReg s .data v with pending := _, responses := _ } _ fnv).1⟩
  case digest =>
    have stored := run_succ_of_step (step_commandEvent hp rfl (.finalStores ready)) 0
    have read := run_succ_of_run stored (step_readReg (r := .digest j) rfl nofun)
    exact ⟨_, _, read, rfl, List.append_assoc ..,
      fun k hk => (byteLane_readReg_digest _ j hk).trans (storeDigest_dbuf_getD s (by omega))⟩
  case table =>
    have latched := run_succ_of_step (step_commandEvent hp rfl (.configurePasses passes)) 0
    have readLo := run_succ_of_run latched (step_readReg (r := .crctabLo i) rfl nofun)
    have readHi := run_succ_of_run readLo (step_readReg (r := .crctabHi i) rfl nofun)
    exact ⟨_, _, _, readHi, rfl, (List.append_assoc ..).trans (List.append_assoc ..), readReg_latchConfig_crctab alg i⟩

end Sys2Proof.Machine
end
